-- ==== Sys2Proof/Word.lean ====
section
/-! DEFINITION. The byte and the 8-byte report, the only words the block exchanges
(spec/00_scope.md R7, R8; spec/20_memory.md R40, R45). -/

namespace Sys2Proof

/-- One byte of a report; bit 0 is its least significant bit (R7). -/
abbrev Byte := BitVec 8

/-- A report: an array of exactly 8 bytes, exchanged whole. `b0` is byte 0, the opcode byte and the
first byte handed to the transport (R8, R43, R46). -/
structure Report where
  b0 : Byte
  b1 : Byte
  b2 : Byte
  b3 : Byte
  b4 : Byte
  b5 : Byte
  b6 : Byte
  b7 : Byte
  deriving DecidableEq, Repr, Inhabited

end Sys2Proof
end

