-- ==== Sys2Proof/Syntax.lean ====
section
/-! DEFINITION. The operations of the block, one constructor per row of spec/opcode_table.json
(spec/00_scope.md R11; spec/30_encoding.md R66, R70, R77), the words that carry them on the block's
ports, and the reasons for which the spec refuses one. -/

namespace Sys2Proof

/-- A host reference to an event sink: an operand of CTRL.OPEN and CTRL.SET_SINK (R30, R66). The
spec gives it no bits; a number stands for it (log 16). -/
abbrev SinkRef := Nat

/-- The operations of spec/opcode_table.json. Operands that the spec refuses when they are out of
range (R100, R103) are plain numbers and lists here, so that the refusal is the operation's own. -/
inductive Instr where
  /-- CMD.GET_UPDATE, R101. -/
  | cmdGetUpdate
  /-- CMD.GET_ID, R102. -/
  | cmdGetId
  /-- CMD.CONFIGURE mute, scale, R103. -/
  | cmdConfigure (mute scale : Nat)
  /-- CMD.RESET, R104. -/
  | cmdReset
  /-- CMD.LED_AUX p, R105. -/
  | cmdLedAux (payload : List Byte)
  /-- CMD.BEEP p, R106. -/
  | cmdBeep (payload : List Byte)
  /-- RSP.UPDATE, R131. -/
  | rspUpdate (rpt : Report)
  /-- RSP.OPAQUE, R138. -/
  | rspOpaque (rpt : Report)
  /-- RSP.MISMATCH, R137. -/
  | rspMismatch (rpt : Report)
  /-- CTRL.OPEN, R170; the sink operand is optional. -/
  | ctrlOpen (sink : Option SinkRef)
  /-- CTRL.CLOSE, R178. -/
  | ctrlClose
  /-- CTRL.SET_SINK, R179. -/
  | ctrlSetSink (sink : SinkRef)
  /-- SEQ.POLL, R173 to R177: the phase at which the loop stands. -/
  | seqPoll
  /-- SEQ.EXIT, R180. -/
  | seqExit
  deriving DecidableEq, Repr, Inhabited

/-- A word on one of the block's ports (spec/92_eei_decisions.md D2): the 3-bit control code with its
sink operand (R66), the bytes of an outbound command (R61), an inbound response (R62, R65). -/
inductive PortWord where
  | ctrl (cop : BitVec 3) (sink : Option SinkRef)
  | tx (bytes : List Byte)
  | rx (rpt : Report)
  deriving DecidableEq, Repr, Inhabited

/-- Why an operation is refused, by name (R10 `refuse(reason)`). -/
inductive RefuseReason where
  /-- CMD_REFUSED "opcode": the opcode byte is none of the six, or is missing (R100, R74). -/
  | opcode
  /-- CMD_REFUSED "payload": more than 7 payload bytes (R100). -/
  | payload
  /-- CMD_REFUSED "operand": a configure operand out of range (R103). -/
  | operand
  /-- The word is no well-formed command: a payload byte its opcode does not use is not 0x00 (R76). -/
  | padding
  /-- Control code 5, 6 or 7 (R66). -/
  | reservedControl
  /-- A control word without the sink it needs, or with one it does not take (R66, log 16). -/
  | controlOperand
  /-- An internal step of the sequencer, offered by the embedder (R66, R215). -/
  | internalStep
  deriving DecidableEq, Repr, Inhabited

end Sys2Proof
end

