-- ==== Sys2Proof/Config.lean ====
section
/-! DEFINITION. The parameters of spec/00_scope.md R6, the answers that come from outside the block
(spec/60_exceptions.md R218), and the free values that stand for them (log 3). -/

namespace Sys2Proof

/-- REPORT_BYTES (R6). -/
def Config.reportBytes : Nat := 8
/-- PAYLOAD_MAX (R6). -/
def Config.payloadMax : Nat := 7
/-- ROCKER_SENTINEL (R6, R23). -/
def Config.rockerSentinel : BitVec 2 := 3
/-- VENDOR_ID of the device the transport opens (R6, R219). -/
def Config.vendorId : Nat := 0x04D8
/-- PRODUCT_ID of the device the transport opens (R6, R219). -/
def Config.productId : Nat := 0xF12D
/-- POLL_PERIOD in milliseconds: nominal, and no rule depends on it (R6, R260). The untimed model
reads it nowhere. -/
def Config.pollPeriodMs : Nat := 50
/-- INIT_MUTE: the mute operand of the configure command CTRL.OPEN sends (R108). -/
def Config.initMute : BitVec 1 := 1
/-- INIT_SCALE: the scale operand of the configure command CTRL.OPEN sends (R108). -/
def Config.initScale : BitVec 7 := 0
/-- The opcode of get-update (R70). -/
def Config.opGetUpdate : Byte := 0x75
/-- The opcode of get-id (R70). -/
def Config.opGetId : Byte := 0x3D
/-- The opcode of configure (R70). -/
def Config.opConfigure : Byte := 0x43
/-- The opcode of reset (R70). -/
def Config.opReset : Byte := 0x72
/-- The opcode of LED-aux-control (R70). -/
def Config.opLedAux : Byte := 0x4F
/-- The opcode of beep-control (R70). -/
def Config.opBeep : Byte := 0x5A
/-- OPCODES: the six values of the opcode byte (R6, R70). -/
def Config.opcodes : List Byte :=
  [Config.opGetUpdate, Config.opGetId, Config.opConfigure, Config.opReset, Config.opLedAux,
    Config.opBeep]

/-- A transport handle: which matching device the open gave (R170 `h`, R219; log 30). -/
abbrev Handle := Nat

/-- Who moves next (R13: embedder and sequencer interleave arbitrarily). -/
inductive Turn where
  /-- The embedder makes its next call. -/
  | call
  /-- The sequencer takes its next step. -/
  | loop
  /-- An unexpected failure is raised in the loop where it stands (R226, I14; log 7). -/
  | failure
  deriving DecidableEq, Repr, Inhabited

/-- The result of the transport's open (R218). -/
inductive OpenAnswer where
  | found (h : Handle)
  | deviceNotFound
  deriving DecidableEq, Repr, Inhabited

/-- The result of the transport's write (R218): it may also never return. -/
inductive WriteAnswer where
  | ok
  | ioFailure
  | never
  deriving DecidableEq, Repr, Inhabited

/-- The result of the transport's read (R218): a buffer of any bytes, of 8 bytes if the transport
keeps its contract (D17 covers the rest), an error, or no return. -/
inductive ReadAnswer where
  | buffer (bytes : List Byte)
  | ioFailure
  | timeout
  | never
  deriving DecidableEq, Repr, Inhabited

/-- The result of one hook call (R144, R254). -/
inductive HookAnswer where
  | ok
  | failure
  | never
  deriving DecidableEq, Repr, Inhabited

/-- The three kinds of event (R140). -/
inductive EventKind where
  | button
  | rotate
  | rocker
  deriving DecidableEq, Repr, Inhabited

/-- P_EVENT_ORDER (R142, D8): the six orders in which the three kinds can reach the sink. -/
inductive EventOrder where
  | rotateRockerButton
  | rotateButtonRocker
  | rockerRotateButton
  | rockerButtonRotate
  | buttonRotateRocker
  | buttonRockerRotate
  deriving DecidableEq, Repr, Inhabited

/-- FREE VALUE: whose turn it is, when nothing is scripted (log 3). -/
opaque Config.freeTurn : Nat → Turn
/-- FREE VALUE: the embedder's next call (log 3). -/
opaque Config.freeCall : Nat → PortWord
/-- FREE VALUE: the answer of a transport open (log 3). -/
opaque Config.freeOpen : Nat → OpenAnswer
/-- FREE VALUE: the answer of a transport write (log 3). -/
opaque Config.freeWrite : Nat → WriteAnswer
/-- FREE VALUE: the answer of a transport read (log 3). -/
opaque Config.freeRead : Nat → ReadAnswer
/-- FREE VALUE: the result of a hook call (log 3). -/
opaque Config.freeHook : Nat → HookAnswer
/-- FREE VALUE: the order of one report's events (log 6). -/
opaque Config.freeOrder : Nat → EventOrder

end Sys2Proof
end

