-- ==== Sys2Proof/WellFormed.lean ====
section
/-! DEFINITION. The operand ranges of an operation (spec/30_encoding.md R61 to R66; the rules of
spec/40_command_encoder.md) and the condition column of spec/opcode_table.json. -/

namespace Sys2Proof

/-- The operands are in the range the operation's rule gives: R103 (mute, scale), R105 and R106 (at
most 7 payload bytes), and for RSP.UPDATE and RSP.OPAQUE the fixed byte 0 of their table row. -/
def Instr.wellFormed : Instr → Bool
  | .cmdGetUpdate => true
  | .cmdGetId => true
  | .cmdConfigure mute scale => decide (mute ≤ 1) && decide (scale ≤ 127)
  | .cmdReset => true
  | .cmdLedAux p => decide (p.length ≤ Config.payloadMax)
  | .cmdBeep p => decide (p.length ≤ Config.payloadMax)
  | .rspUpdate rpt => decide (rpt.b0 = Config.opGetUpdate)
  | .rspOpaque rpt => decide (rpt.b0 = Config.opGetId)
  | .rspMismatch _ => true
  | .ctrlOpen _ => true
  | .ctrlClose => true
  | .ctrlSetSink _ => true
  | .seqPoll => true
  | .seqExit => true

/-- The table's condition on EXPECTED_OP for a response row; the other rows have none (R76, R130). -/
def Instr.admits (expected : Byte) : Instr → Bool
  | .cmdGetUpdate => true
  | .cmdGetId => true
  | .cmdConfigure _ _ => true
  | .cmdReset => true
  | .cmdLedAux _ => true
  | .cmdBeep _ => true
  | .rspUpdate _ => decide (expected = Config.opGetUpdate)
  | .rspOpaque _ => decide (expected = Config.opGetId)
  | .rspMismatch rpt => decide (rpt.b0 ≠ expected)
  | .ctrlOpen _ => true
  | .ctrlClose => true
  | .ctrlSetSink _ => true
  | .seqPoll => true
  | .seqExit => true

end Sys2Proof
end

