-- ==== Sys2Proof/Decode.lean ====
section
/-! DEFINITION. Reports as bytes and as 64-bit words, the decoder of the control, outbound and
inbound words, and the encoder (spec/00_scope.md R8; spec/30_encoding.md R61 to R76). -/

namespace Sys2Proof

/-- The bytes of a report in transfer order (R43). -/
def Report.bytes (r : Report) : List Byte := [r.b0, r.b1, r.b2, r.b3, r.b4, r.b5, r.b6, r.b7]

/-- A buffer of exactly 8 bytes is a report; no other length is (R45, D17). -/
def Report.ofBytes : List Byte → Option Report
  | [b0, b1, b2, b3, b4, b5, b6, b7] => some ⟨b0, b1, b2, b3, b4, b5, b6, b7⟩
  | _ => none

/-- W(rpt): the sum over i of byte i times 2^(8 i) (R8). -/
def Report.word (r : Report) : Nat :=
  r.b0.toNat + 2 ^ 8 * r.b1.toNat + 2 ^ 16 * r.b2.toNat + 2 ^ 24 * r.b3.toNat
    + 2 ^ 32 * r.b4.toNat + 2 ^ 40 * r.b5.toNat + 2 ^ 48 * r.b6.toNat + 2 ^ 56 * r.b7.toNat

/-- The report whose W is the number: byte i is bits 8 i + 7 down to 8 i (R8). -/
def Report.ofWord (w : Nat) : Report :=
  ⟨BitVec.ofNat 8 w, BitVec.ofNat 8 (w / 2 ^ 8), BitVec.ofNat 8 (w / 2 ^ 16),
    BitVec.ofNat 8 (w / 2 ^ 24), BitVec.ofNat 8 (w / 2 ^ 32), BitVec.ofNat 8 (w / 2 ^ 40),
    BitVec.ofNat 8 (w / 2 ^ 48), BitVec.ofNat 8 (w / 2 ^ 56)⟩

/-- Payload byte i as supplied, 0x00 beyond the end (R100: the zero-fill). -/
def payloadByte (p : List Byte) (i : Nat) : Byte := p.getD i 0

/-- The frame of an opcode and a payload: byte 0 the opcode, bytes 1 to 7 the payload, zero-filled
(R61, R100). -/
def fillFrame (op : Byte) (p : List Byte) : Report :=
  ⟨op, payloadByte p 0, payloadByte p 1, payloadByte p 2, payloadByte p 3, payloadByte p 4,
    payloadByte p 5, payloadByte p 6⟩

/-- The seven payload bytes a frame carries for a payload (R65: zero-filled to 7 bytes). -/
def padPayload (p : List Byte) : List Byte :=
  [payloadByte p 0, payloadByte p 1, payloadByte p 2, payloadByte p 3, payloadByte p 4,
    payloadByte p 5, payloadByte p 6]

/-- opt = (zext_8(scale) << 1) | zext_8(mute) (R69). -/
def optByte (mute scale : Nat) : Byte := (BitVec.ofNat 8 scale <<< 1) ||| BitVec.ofNat 8 mute

/-- The mute bit of an option byte, bit 0 (R64). -/
def optMute (opt : Byte) : Nat := (opt.extractLsb' 0 1).toNat

/-- The scale field of an option byte, bits 7:1 (R64). -/
def optScale (opt : Byte) : Nat := (opt.extractLsb' 1 7).toNat

/-- Every byte of the list is 0x00 (R75, R76). -/
def allZero (p : List Byte) : Bool := p.all (fun b => decide (b = 0))

/-- A command whose payload beyond its own bytes must be zero (R76). -/
def decodePadded (p unused : List Byte) (i : Instr) : Except RefuseReason Instr :=
  if p.length > Config.payloadMax then .error .payload
  else if allZero unused then .ok i
  else .error .padding

/-- The decoder of outbound words (R76), on any list of bytes: byte 0 selects the row of R70, and the
payload bytes the row does not use must be 0x00. Bytes that are missing count as zero-filled, and an
opaque payload that is too long is left to the operation, which refuses it (log 29). DESIGN CHOICE: a
called CMD operation has its operands from its encoded word alone, so no word carries a configure operand
out of range (log 33), and the payload of an opaque command is the 7 bytes of its word (log 26). -/
def decodeCommand : List Byte → Except RefuseReason Instr
  | [] => .error .opcode
  | op :: p =>
    if op = Config.opGetUpdate then decodePadded p p .cmdGetUpdate
    else if op = Config.opGetId then decodePadded p p .cmdGetId
    else if op = Config.opConfigure then
      decodePadded p (p.drop 1)
        (.cmdConfigure (optMute (payloadByte p 0)) (optScale (payloadByte p 0)))
    else if op = Config.opReset then decodePadded p p .cmdReset
    else if op = Config.opLedAux then .ok (.cmdLedAux p)
    else if op = Config.opBeep then .ok (.cmdBeep p)
    else .error .opcode

/-- The decoder of inbound words, RSP dispatch (R76, R130): byte 0 against EXPECTED_OP, and nothing
else is validated. The last branch is R130's `else` (log 19). -/
def decodeResponse (expected : Byte) (rpt : Report) : Instr :=
  if rpt.b0 ≠ expected then .rspMismatch rpt
  else if expected = Config.opGetUpdate then .rspUpdate rpt
  else .rspOpaque rpt

/-- The decoder of the control port (R66): codes 5 to 7 are reserved; SET_SINK takes a sink, OPEN may
take one, the others take none. -/
def decodeControl (cop : BitVec 3) (sink : Option SinkRef) : Except RefuseReason Instr :=
  if cop = 0 then .ok (.ctrlOpen sink)
  else if cop = 2 then
    match sink with
    | some k => .ok (.ctrlSetSink k)
    | none => .error .controlOperand
  else if cop = 1 ∨ cop = 3 ∨ cop = 4 then
    if sink ≠ none then .error .controlOperand
    else if cop = 1 then .ok .ctrlClose
    else if cop = 3 then .ok .seqPoll
    else .ok .seqExit
  else .error .reservedControl

/-- The decoder, total on every word of every port; EXPECTED_OP is its second input, which only an
inbound word reads (R76). -/
def decode (expected : Byte) : PortWord → Except RefuseReason Instr
  | .ctrl cop sink => decodeControl cop sink
  | .tx bytes => decodeCommand bytes
  | .rx rpt => .ok (decodeResponse expected rpt)

/-- The encoder: the port word of an operation, from the formats CMD, CFG, OPQ, UPD, RSPX and CTRL
(R61 to R66, R70). -/
def encode : Instr → PortWord
  | .cmdGetUpdate => .tx (fillFrame Config.opGetUpdate []).bytes
  | .cmdGetId => .tx (fillFrame Config.opGetId []).bytes
  | .cmdConfigure mute scale => .tx (fillFrame Config.opConfigure [optByte mute scale]).bytes
  | .cmdReset => .tx (fillFrame Config.opReset []).bytes
  | .cmdLedAux p => .tx (fillFrame Config.opLedAux p).bytes
  | .cmdBeep p => .tx (fillFrame Config.opBeep p).bytes
  | .rspUpdate rpt => .rx rpt
  | .rspOpaque rpt => .rx rpt
  | .rspMismatch rpt => .rx rpt
  | .ctrlOpen sink => .ctrl 0 sink
  | .ctrlClose => .ctrl 1 none
  | .ctrlSetSink k => .ctrl 2 (some k)
  | .seqPoll => .ctrl 3 none
  | .seqExit => .ctrl 4 none

/-- The operation with its opaque payload written out to 7 bytes: a payload byte 0x00 cannot be told
apart from padding (R100), so this is what a word determines (log 26). -/
def canon : Instr → Instr
  | .cmdLedAux p => .cmdLedAux (padPayload p)
  | .cmdBeep p => .cmdBeep (padPayload p)
  | i => i

/-- The port word that a number of spec/opcode_table.json stands for (log 15). A row that fixes no
bit is RSP.MISMATCH's; a row that gives 8 bits or fewer is a control code, or the byte 0 of an opaque
command or of a matching response; a row that gives 64 bits is an outbound word where it is a
well-formed command, else an inbound one. -/
def tablePortWord (nbits w : Nat) : PortWord :=
  if nbits = 0 then .rx (Report.ofWord w)
  else if nbits ≤ 8 then
    if w = 0x4F ∨ w = 0x5A then .tx (Report.ofWord w).bytes
    else if w = 0x75 ∨ w = 0x3D then .rx (Report.ofWord w)
    else .ctrl (BitVec.ofNat 3 w) (if w % 8 = 2 then some 0 else none)
  else
    match decodeCommand (Report.ofWord w).bytes with
    | .ok _ => .tx (Report.ofWord w).bytes
    | .error _ => .rx (Report.ofWord w)

/-- The EXPECTED_OP under which an inbound word of the table is read: get-id's for a get-id response,
else get-update's (log 15). -/
def tableExpectedOp (w : Nat) : Byte :=
  if (Report.ofWord w).b0 = Config.opGetId then Config.opGetId else Config.opGetUpdate

/-- What the decoder reads from a row's word, with the bits numbered as spec/opcode_table.json
numbers them. -/
def decodeTableWord (nbits w : Nat) : Option Instr :=
  (decode (tableExpectedOp w) (tablePortWord nbits w)).toOption

end Sys2Proof
end

