-- ==== Sys2Proof/Machine/State.lean ====
section
/-! DEFINITION. The state of the block (spec/10_state.md R20 to R36), what the spec's steps hold
between them (log 4), the ports' record, and the state after reset (spec/70_reset_and_hazards.md R240). -/

namespace Sys2Proof.Machine

/-- PHASE (R27): the sequencer's position in its loop. -/
inductive Phase where
  | none
  | top
  | write
  | read
  | decode
  | sleep
  | stopped
  deriving DecidableEq, Repr, Inhabited

/-- EXIT_CAUSE (R28). -/
inductive ExitCause where
  | none
  | stopRequested
  | ioFailure
  | unexpectedFailure
  deriving DecidableEq, Repr, Inhabited

/-- SINK (R30): a host reference, or DEFAULT, a receiver that discards every event. -/
inductive Sink where
  | default
  | ref (k : SinkRef)
  deriving DecidableEq, Repr, Inhabited

/-- The event records (R140). A rotate event carries the cumulative position, not the delta (R141). -/
inductive Event where
  | button (buttons : BitVec 4) (tapHold : Bool)
  | rotate (cumulativePosition : Int)
  | rocker (position : BitVec 2)
  deriving DecidableEq, Repr, Inhabited

/-- The error causes of R200. -/
inductive ErrorCode where
  | deviceNotFound
  | deviceInitFailure
  | ioFailure
  | protocolMismatch
  | unexpectedFailure
  | unexpectedWhileStopping
  | cmdRefused
  | positionOverflow
  deriving DecidableEq, Repr, Inhabited

/-- The transport call during which a failure came back (R201: a model may keep it, no rule reads it). -/
inductive Transfer where
  | write
  | read
  deriving DecidableEq, Repr, Inhabited

/-- A failure raised inside the loop (R202, R226). -/
inductive LoopFailure where
  /-- IoFailure of a write or a read; a Timeout counts as a read failure (R201, D16). -/
  | transport (during : Transfer)
  /-- A response that is not 8 bytes long (R226 (b), D17). -/
  | length
  /-- A hook call that failed (R226 (a), R144). -/
  | sink
  /-- Any other unexpected failure (R226, I14). -/
  | other
  deriving DecidableEq, Repr, Inhabited

/-- A call the block makes on one of its ports (spec/92_eei_decisions.md D2). -/
inductive PortCall where
  /-- open(vendorId, productId) and what it answered (R218, R219). -/
  | xportOpen (vendorId productId : Nat) (answer : OpenAnswer)
  /-- MemWrite(TX, 8, rpt) on the handle: recorded when the report is handed over (R10). -/
  | memWrite (h : Handle) (rpt : Report)
  /-- MemRead(RX, 8) on the handle: recorded when the call is made. -/
  | memRead (h : Handle)
  /-- close(handle) (R218). -/
  | xportClose (h : Handle)
  /-- A hook call that returned: the sink has received the event (R142, R144). -/
  | hook (sink : Sink) (ev : Event)
  /-- The get-id response on the ID output port (R138). -/
  | idOut (rpt : Report)
  deriving DecidableEq, Repr, Inhabited

/-- What an operation returns to the context that called it. -/
inductive Ret where
  /-- The report a CMD operation builds (R107). -/
  | report (rpt : Report)
  /-- The Driver a successful CTRL.OPEN returns (R170). -/
  | driver
  /-- The return of CTRL.CLOSE and CTRL.SET_SINK (R178, R179). -/
  | done
  /-- An error returned synchronously to the caller (R204). -/
  | error (code : ErrorCode)
  /-- A refused operation (R10, R206). -/
  | refused (why : RefuseReason)
  deriving DecidableEq, Repr, Inhabited

/-- A fault of the model: the machine stops. -/
inductive Fault where
  /-- Raised by CTRL.CLOSE, CTRL.SET_SINK and the SEQ and RSP operations when there is no instance:
  reading state that does not exist (R34, D34, I16). Those that read none fault by the model's choice
  (log 12). Safe. -/
  | noInstance
  /-- POSITION_OVERFLOW, raised by RSP.UPDATE (and SEQ.POLL, which runs it) when P_POS_BITS is finite
  (R139, R207). Safe: a finite realisation that wraps is outside the spec (D5). -/
  | positionOverflow
  /-- Raised by CTRL.CLOSE when its teardown would close the handle while a transfer is in flight
  (R221, I1); no reachable state does. Safe. -/
  | closeInFlight
  deriving DecidableEq, Repr, Inhabited

/-- An operation without a meaning where it is asked for. -/
inductive Refusal where
  /-- An operation that the model gives no meaning yet, by its mnemonic; raised by exec alone. Safe. -/
  | notModelled (mnemonic : String)
  /-- CTRL.OPEN while an instance is running or being opened: its precondition is a fresh instance
  (R170), and two instances on one device are outside the spec (R223). Safe. -/
  | secondInstance
  /-- A SEQ or RSP operation asked for where the sequencer does not take it: another phase, another
  response, EXPECTED_OP otherwise, or a loop that has stopped (R130, R173, R180, R181). Safe. -/
  | notDue
  deriving DecidableEq, Repr, Inhabited

/-- One instance: the eleven elements of R20, and the handle and what an iteration holds between its
steps (log 4). -/
structure Driver where
  /-- POS (R22). -/
  pos : Int
  /-- ROCKER_LAST (R23). -/
  rockerLast : BitVec 2
  /-- MUTE (R24). -/
  mute : BitVec 1
  /-- SCALE (R24). -/
  scale : BitVec 7
  /-- KEEP_RUNNING (R25). -/
  keepRunning : Bool
  /-- HANDLE_OPEN (R26). -/
  handleOpen : Bool
  /-- PHASE (R27). -/
  phase : Phase
  /-- EXIT_CAUSE (R28). -/
  exitCause : ExitCause
  /-- EXPECTED_OP (R29). -/
  expectedOp : Byte
  /-- SINK (R30). -/
  sink : Sink
  /-- CLOSE_COUNT (R31), a ghost. -/
  closeCount : Nat
  /-- The handle h of CTRL.OPEN step 1 (R170, R222). -/
  handle : Handle
  /-- A transport call has been made and has not returned (R12, R221). -/
  inFlight : Bool
  /-- A call has not returned and never will (R251, R254, I17; log 5). -/
  stuck : Bool
  /-- The response between READ and its parse (R175 `rpt`). -/
  rx : Option Report
  /-- The events of the report in delivery, in delivery order (R176 `evs`). -/
  pending : List Event
  deriving DecidableEq, Repr, Inhabited

/-- What comes from outside, as data: each list is read from its head, and where one is empty the
free value of `Config` at `draws` answers (log 3). The MODEL's own fields. -/
structure Inputs where
  /-- Who moves next (R13). -/
  turns : List Turn
  /-- The embedder's calls, oldest first. -/
  calls : List PortWord
  /-- Answers to open (R218). -/
  opens : List OpenAnswer
  /-- Answers to write (R218). -/
  writes : List WriteAnswer
  /-- Answers to read (R218, R78 `rsp=`). -/
  reads : List ReadAnswer
  /-- Results of hook calls (R144). -/
  hooks : List HookAnswer
  /-- Orders of one report's events (R142). -/
  orders : List EventOrder
  /-- The argument of the free values; it advances with every input taken. -/
  draws : Nat
  deriving DecidableEq, Repr, Inhabited

/-- The machine. -/
structure State where
  /-- The current instance. -/
  drv : Driver
  /-- The instances that ran and stopped before it, newest first (R208, R241; log 9). -/
  retired : List Driver
  /-- The calls made on the ports, oldest first (D2; log 20). -/
  trace : List PortCall
  /-- What the last operation returned to its caller (log 14). -/
  ret : Ret
  /-- The refusal mark (R206). -/
  refusalMark : Bool
  /-- P_POS_BITS: unbounded (`none`) or a width (R6, R139; log 17). -/
  posBits : Option Nat
  /-- What comes from outside. -/
  inputs : Inputs
  deriving DecidableEq, Repr, Inhabited

/-- The state after the block's only reset, a successful CTRL.OPEN (R240), here one that was given no
sink (log 1): every element of R20 at its reset value, nothing in progress, the two calls that open
sequence made, and its result. -/
def State.reset : State where
  drv :=
    { pos := 0, rockerLast := 3, mute := 1, scale := 0, keepRunning := true, handleOpen := true,
      phase := .top, exitCause := .none, expectedOp := 0x75, sink := .default, closeCount := 0,
      handle := 0, inFlight := false, stuck := false, rx := none, pending := [] }
  retired := []
  trace := [.xportOpen 0x04D8 0xF12D (.found 0), .memWrite 0 ⟨0x43, 0x01, 0, 0, 0, 0, 0, 0⟩]
  ret := .driver
  refusalMark := false
  posBits := none
  inputs :=
    { turns := [], calls := [], opens := [], writes := [], reads := [], hooks := [], orders := [],
      draws := 0 }

end Sys2Proof.Machine
end

