-- ==== Sys2Proof/Machine/Operands.lean ====
section
/-! DEFINITION. The operand forms: the fields of a get-update response (spec/30_encoding.md R62, R63,
R67, R68) and the frames of the commands (spec/30_encoding.md R69; spec/40_command_encoder.md R100, R103). -/

namespace Sys2Proof

/-- sext_16: a 16-bit pattern read as two's complement, v if v < 2^15 and v - 2^16 otherwise (R9;
log 18). -/
def sext16 (v : BitVec 16) : Int := if v.toNat < 32768 then v.toNat else (v.toNat : Int) - 65536

/-- The tick delta, sext_16(rpt[2] ++ rpt[1]) (R67). -/
def Report.delta (r : Report) : Int := sext16 (r.b2 ++ r.b1)

/-- The button mask, rpt[3][3:0] (R68). -/
def Report.buttons (r : Report) : BitVec 4 := r.b3.extractLsb' 0 4

/-- The tap/hold flag, rpt[3][4]: true is hold (R68). -/
def Report.tapHold (r : Report) : Bool := r.b3.getLsbD 4

/-- The rocker field, rpt[3][6:5], bit 5 the less significant (R63, R68). -/
def Report.rocker (r : Report) : BitVec 2 := r.b3.extractLsb' 5 2

/-- Frame(op, p) with its two refusals (R100). -/
def frame (op : Byte) (p : List Byte) : Except RefuseReason Report :=
  if op ∉ Config.opcodes then .error .opcode
  else if p.length > Config.payloadMax then .error .payload
  else .ok (fillFrame op p)

/-- The configure request of operands mute and scale, refused out of range (R103). -/
def configureFrame (mute scale : Nat) : Except RefuseReason Report :=
  if mute > 1 ∨ scale > 127 then .error .operand
  else frame Config.opConfigure [optByte mute scale]

/-- CMD.CONFIGURE(mute=1, scale=0), the configure command CTRL.OPEN sends (R108, R79 CMD.MUTE_INIT). -/
def initConfigure : Report :=
  fillFrame Config.opConfigure [optByte Config.initMute.toNat Config.initScale.toNat]

/-- CMD.GET_UPDATE, the command the poll loop sends (R101, R174). -/
def getUpdateReport : Report := fillFrame Config.opGetUpdate []

end Sys2Proof
end

