-- ==== Sys2Proof/Machine/Flags.lean ====
section
/-! DEFINITION. The block has no condition codes (spec/10_state.md R32). What it computes from a report
in their place stands here: the accumulator, the three comparators and the order of their events
(spec/41_report_parser.md R132 to R135, R139, R142). -/

namespace Sys2Proof.Machine

/-- A value fits P_POS_BITS: always when it is unbounded, else within -2^(N-1) .. 2^(N-1)-1 (R139). -/
def fitsWidth : Option Nat → Int → Bool
  | none, _ => true
  | some n, x => decide (-(2 ^ (n - 1) : Int) ≤ x) && decide (x ≤ 2 ^ (n - 1) - 1)

/-- The accumulator: POS + delta exactly; `none` is POSITION_OVERFLOW (R132, R139). -/
def accumulate (posBits : Option Nat) (pos delta : Int) : Option Int :=
  if delta = 0 then some pos
  else if fitsWidth posBits (pos + delta) then some (pos + delta)
  else none

/-- The rotate event of a report: exactly one, with the new POS, when the delta is not zero (R132). -/
def rotateEvents (delta newPos : Int) : List Event :=
  if delta ≠ 0 then [.rotate newPos] else []

/-- The rocker event of a report: exactly one when the raw 2-bit values differ (R133). -/
def rockerEvents (last rocker : BitVec 2) : List Event :=
  if rocker ≠ last then [.rocker rocker] else []

/-- The button event of a report: exactly one when the mask is not zero, whatever tapHold is (R134). -/
def buttonEvents (buttons : BitVec 4) (tapHold : Bool) : List Event :=
  if buttons ≠ 0 then [.button buttons tapHold] else []

/-- The event set of a matching response (R131 `evs`). -/
def updateEvents (last : BitVec 2) (newPos : Int) (rpt : Report) : List Event :=
  rotateEvents rpt.delta newPos ++ rockerEvents last rpt.rocker
    ++ buttonEvents rpt.buttons rpt.tapHold

/-- The kind of an event (R140). -/
def Event.kind : Event → EventKind
  | .button _ _ => .button
  | .rotate _ => .rotate
  | .rocker _ => .rocker

/-- The kinds in the order P_EVENT_ORDER gives them (R142). -/
def orderKinds : EventOrder → List EventKind
  | .rotateRockerButton => [.rotate, .rocker, .button]
  | .rotateButtonRocker => [.rotate, .button, .rocker]
  | .rockerRotateButton => [.rocker, .rotate, .button]
  | .rockerButtonRotate => [.rocker, .button, .rotate]
  | .buttonRotateRocker => [.button, .rotate, .rocker]
  | .buttonRockerRotate => [.button, .rocker, .rotate]

/-- The events of one report in delivery order (R142, R176). -/
def arrange (o : EventOrder) (evs : List Event) : List Event :=
  (orderKinds o).flatMap (fun k => evs.filter (fun e => decide (e.kind = k)))

end Sys2Proof.Machine
end

