-- ==== Sys2Proof/Machine/Ops.lean ====
section
/-! DEFINITION. The named operations over the state: updates, inputs, port calls, refusing, the loop exit
(the block's one exception entry, spec/60_exceptions.md R202, R203), and which operation the sequencer
takes next (spec/42_lifecycle.md R173 to R181). -/

namespace Sys2Proof.Machine

/-! ## Updates -/

/-- The state with another current instance. -/
def State.setDrv (s : State) (d : Driver) : State := { s with drv := d }

/-- The state after one more call on a port (D2). -/
def State.emit (s : State) (c : PortCall) : State := { s with trace := s.trace ++ [c] }

/-- The state after an operation returned a value to its caller. -/
def State.setRet (s : State) (r : Ret) : State := { s with ret := r }

/-- The state with the refusal mark set (R206). -/
def State.mark (s : State) : State := { s with refusalMark := true }

/-- The current instance is put aside, and the slot is a fresh one: no instance, PHASE = NONE
(R34, R241; log 9, log 12). -/
def State.setAside (s : State) (fresh : Driver) : State :=
  { s with drv := fresh, retired := s.drv :: s.retired }

/-! ## Inputs (log 3) -/

/-- The head of a script, or the free value where it is empty. -/
def scripted {α : Type} (script : List α) (free : Nat → α) (n : Nat) : α :=
  match script with
  | a :: _ => a
  | [] => free n

/-- Whose turn it is (R13). -/
def State.nextTurn (s : State) : Turn := scripted s.inputs.turns Config.freeTurn s.inputs.draws

/-- The turn has been taken. -/
def State.tookTurn (s : State) : State :=
  { s with inputs := { s.inputs with turns := s.inputs.turns.tail, draws := s.inputs.draws + 1 } }

/-- The embedder's next call. -/
def State.nextCall (s : State) : PortWord := scripted s.inputs.calls Config.freeCall s.inputs.draws

/-- The call has been taken. -/
def State.tookCall (s : State) : State :=
  { s with inputs := { s.inputs with calls := s.inputs.calls.tail, draws := s.inputs.draws + 1 } }

/-- What the transport answers to open (R218). -/
def State.openAnswer (s : State) : OpenAnswer :=
  scripted s.inputs.opens Config.freeOpen s.inputs.draws

/-- The answer has been taken. -/
def State.tookOpen (s : State) : State :=
  { s with inputs := { s.inputs with opens := s.inputs.opens.tail, draws := s.inputs.draws + 1 } }

/-- What the transport answers to write (R218). -/
def State.writeAnswer (s : State) : WriteAnswer :=
  scripted s.inputs.writes Config.freeWrite s.inputs.draws

/-- The answer has been taken. -/
def State.tookWrite (s : State) : State :=
  { s with inputs := { s.inputs with writes := s.inputs.writes.tail, draws := s.inputs.draws + 1 } }

/-- What the transport answers to read (R218). -/
def State.readAnswer (s : State) : ReadAnswer :=
  scripted s.inputs.reads Config.freeRead s.inputs.draws

/-- The answer has been taken. -/
def State.tookRead (s : State) : State :=
  { s with inputs := { s.inputs with reads := s.inputs.reads.tail, draws := s.inputs.draws + 1 } }

/-- What the hook call does (R144). -/
def State.hookAnswer (s : State) : HookAnswer :=
  scripted s.inputs.hooks Config.freeHook s.inputs.draws

/-- The result has been taken. -/
def State.tookHook (s : State) : State :=
  { s with inputs := { s.inputs with hooks := s.inputs.hooks.tail, draws := s.inputs.draws + 1 } }

/-- The order of one report's events (R142). -/
def State.eventOrder (s : State) : EventOrder :=
  scripted s.inputs.orders Config.freeOrder s.inputs.draws

/-- The order has been taken. -/
def State.tookOrder (s : State) : State :=
  { s with inputs := { s.inputs with orders := s.inputs.orders.tail, draws := s.inputs.draws + 1 } }

/-! ## Refusing, and errors -/

/-- `refuse(reason)`: no state of the block is written, and the refusal mark is set (R10, R206; log 13). -/
def refuse (why : RefuseReason) (s : State) : State := s.mark.setRet (.refused why)

/-- The numeric codes of the error causes (R200, D18). -/
def ErrorCode.code : ErrorCode → Nat
  | .deviceNotFound => 1
  | .deviceInitFailure => 2
  | .ioFailure => 3
  | .protocolMismatch => 4
  | .unexpectedFailure => 5
  | .unexpectedWhileStopping => 6
  | .cmdRefused => 7
  | .positionOverflow => 8

/-- The error cause of a refusal: CMD_REFUSED for those of the command encoder (R200, R206). DESIGN
CHOICE: a malformed outbound word, of which R76 says only that it is no well-formed command, has
CMD_REFUSED too (log 31). DESIGN CHOICE: the control port's refusals have no code (log 31). -/
def refusalCode : RefuseReason → Option ErrorCode
  | .opcode => some .cmdRefused
  | .payload => some .cmdRefused
  | .operand => some .cmdRefused
  | .padding => some .cmdRefused
  | .reservedControl => none
  | .controlOperand => none
  | .internalStep => none

/-! ## The loop exit, the one exception entry -/

/-- XportClose(h); CLOSE_COUNT <- CLOSE_COUNT + 1; HANDLE_OPEN <- 0 (R203, R172). Close has no error
result (R209; log 21). -/
def State.closeHandle (s : State) : State :=
  (s.emit (.xportClose s.drv.handle)).setDrv
    { s.drv with handleOpen := false, closeCount := s.drv.closeCount + 1 }

/-- EXIT_CAUSE <- cause; PHASE <- STOPPED; nothing of the interrupted iteration is left (R203). -/
def Driver.stop (d : Driver) (cause : ExitCause) : Driver :=
  { d with exitCause := cause, phase := .stopped, inFlight := false, rx := none, pending := [] }

/-- The handle is closed if it is open (R203). -/
def State.closeIfOpen (s : State) : State := if s.drv.handleOpen then s.closeHandle else s

/-- The transfer in flight is over: its call has returned, or has failed (R221). -/
def State.landed (s : State) : State := s.setDrv { s.drv with inFlight := false }

/-- LoopExit(cause), as one step (R203). Nothing returns from it (R208). -/
def loopExit (cause : ExitCause) (s : State) : State :=
  s.closeIfOpen.setDrv (s.closeIfOpen.drv.stop cause)

/-- The error cause of a failure in the loop: a transport error whatever KEEP_RUNNING is, any other by
KEEP_RUNNING at the moment it is raised (R202, R210, D27). -/
def classify (f : LoopFailure) (keepRunning : Bool) : ErrorCode :=
  match f with
  | .transport _ => .ioFailure
  | .length => if keepRunning then .unexpectedFailure else .unexpectedWhileStopping
  | .sink => if keepRunning then .unexpectedFailure else .unexpectedWhileStopping
  | .other => if keepRunning then .unexpectedFailure else .unexpectedWhileStopping

/-- What an error cause records in EXIT_CAUSE, R200's column `recorded`; the causes that end no loop
record nothing. -/
def exitCauseOf : ErrorCode → ExitCause
  | .deviceNotFound => .none
  | .deviceInitFailure => .none
  | .ioFailure => .ioFailure
  | .protocolMismatch => .none
  | .unexpectedFailure => .unexpectedFailure
  | .unexpectedWhileStopping => .stopRequested
  | .cmdRefused => .none
  | .positionOverflow => .none

/-- A failure raised inside the loop: classified, and the loop ends (R202). -/
def raiseInLoop (f : LoopFailure) (s : State) : State :=
  loopExit (exitCauseOf (classify f s.drv.keepRunning)) s

/-! ## Instances -/

/-- No instance (R34): PHASE is NONE. The other fields hold data that no step reads (log 12). -/
def Driver.absent : Driver where
  pos := 0
  rockerLast := 0
  mute := 0
  scale := 0
  keepRunning := false
  handleOpen := false
  phase := .none
  exitCause := .none
  expectedOp := 0
  sink := .default
  closeCount := 0
  handle := 0
  inFlight := false
  stuck := false
  rx := none
  pending := []

/-- The instance a successful CTRL.OPEN brings into being (R170 steps 3 and 4, R240). -/
def Driver.opened (h : Handle) (sink : Sink) : Driver where
  pos := 0
  rockerLast := Config.rockerSentinel
  mute := Config.initMute
  scale := Config.initScale
  keepRunning := true
  handleOpen := true
  phase := .top
  exitCause := .none
  expectedOp := Config.opGetUpdate
  sink := sink
  closeCount := 0
  handle := h
  inFlight := false
  stuck := false
  rx := none
  pending := []

/-- CTRL.OPEN is blocked in its configure write, and its caller with it (R170, R251; log 28). -/
def State.openBlocked (s : State) : Bool := decide (s.drv.phase = .none) && s.drv.stuck

/-- The loop can take a step: PHASE is TOP to SLEEP, and no call of it blocks for ever
(R27, R181, R202, R251). -/
def State.loopMoves (s : State) : Bool :=
  !s.drv.stuck && decide (s.drv.phase ≠ .none) && decide (s.drv.phase ≠ .stopped)

/-- The operation the sequencer takes next: SEQ.EXIT at TOP when KEEP_RUNNING = 0 (R173, R180), the
response operation that RSP dispatch selects in DECODE (R130, R176), else SEQ.POLL. -/
def State.due (s : State) : Option Instr :=
  if s.loopMoves then
    match s.drv.phase, s.drv.rx with
    | .top, _ => if s.drv.keepRunning then some .seqPoll else some .seqExit
    | .decode, some rpt => some (decodeResponse s.drv.expectedOp rpt)
    | _, _ => some .seqPoll
  else none

/-- An internal operation is carried out where the sequencer takes it, and nowhere else; without an
instance there is nothing to read (R34, R66, R181; log 11). -/
def whenDue (i : Instr) (s : State) (answer : Host.Outcome State Fault Refusal) :
    Host.Outcome State Fault Refusal :=
  if s.drv.phase = .none then .fault .noInstance
  else if s.due = some i then answer
  else .refused .notDue

/-! ## STATUS -/

/-- The first component of STATUS (R36). -/
inductive RunState where
  | running
  | stopped
  deriving DecidableEq, Repr, Inhabited

/-- The STATUS output: (RUNNING or STOPPED, EXIT_CAUSE); nothing without an instance (R36). -/
def State.status (s : State) : Option (RunState × ExitCause) :=
  match s.drv.phase with
  | .none => none
  | .stopped => some (.stopped, s.drv.exitCause)
  | _ => some (.running, s.drv.exitCause)

end Sys2Proof.Machine
end

