-- ==== Sys2Proof/Machine/Command.lean ====
section
/-! DEFINITION. The command encoder's operations (spec/40_command_encoder.md): pure, each returns one
report or is refused (R107, R206). -/

namespace Sys2Proof.Machine

/-- A command operation hands its report to its caller, or sets the refusal mark and produces none
(R107, R206; log 13, log 14). -/
def returnReport (r : Except RefuseReason Report) (s : State) : State :=
  match r with
  | .ok rpt => s.setRet (.report rpt)
  | .error why => refuse why s

/-- CMD.GET_UPDATE (R101). -/
def execCmdGetUpdate (s : State) : Host.Outcome State Fault Refusal :=
  .next (returnReport (frame Config.opGetUpdate []) s)

/-- CMD.GET_ID (R102). -/
def execCmdGetId (s : State) : Host.Outcome State Fault Refusal :=
  .next (returnReport (frame Config.opGetId []) s)

/-- CMD.CONFIGURE mute, scale (R103). -/
def execCmdConfigure (mute scale : Nat) (s : State) : Host.Outcome State Fault Refusal :=
  .next (returnReport (configureFrame mute scale) s)

/-- CMD.RESET (R104): a command to the device; the block's own state is unchanged (D12). -/
def execCmdReset (s : State) : Host.Outcome State Fault Refusal :=
  .next (returnReport (frame Config.opReset []) s)

/-- CMD.LED_AUX p (R105). -/
def execCmdLedAux (p : List Byte) (s : State) : Host.Outcome State Fault Refusal :=
  .next (returnReport (frame Config.opLedAux p) s)

/-- CMD.BEEP p (R106). -/
def execCmdBeep (p : List Byte) (s : State) : Host.Outcome State Fault Refusal :=
  .next (returnReport (frame Config.opBeep p) s)

end Sys2Proof.Machine
end

