-- ==== Sys2Proof/Machine/Control.lean ====
section
/-! DEFINITION. The embedder's operations (spec/42_lifecycle.md R170 to R172, R178, R179). -/

namespace Sys2Proof.Machine

/-- The sink operand of CTRL.OPEN: the reference given, or DEFAULT (R30, R170). -/
def sinkOf : Option SinkRef → Sink
  | some k => .ref k
  | none => .default

/-- CTRL.OPEN steps 2 to 4, the handle acquired: the configure write and what follows each of its
results (R170, R172, D19; a write that never returns blocks the call, log 5). -/
def configureDevice (sink : Option SinkRef) (s : State) : State :=
  let s1 := s.tookWrite.emit (.memWrite s.drv.handle initConfigure)
  match s.writeAnswer with
  | .ok => (s1.setDrv (Driver.opened s.drv.handle (sinkOf sink))).setRet .driver
  | .ioFailure => s1.closeHandle.setRet (.error .deviceInitFailure)
  | .never => s1.setDrv { s.drv with inFlight := true, stuck := true }

/-- CTRL.OPEN step 1 answered a handle: HANDLE_OPEN <- 1; CLOSE_COUNT <- 0 (R170). -/
def acquireHandle (h : Handle) (s : State) : State :=
  (s.tookOpen.emit (.xportOpen Config.vendorId Config.productId (.found h))).setDrv
    { s.drv with handleOpen := true, closeCount := 0, handle := h }

/-- CTRL.OPEN on a fresh instance (R170, R171). -/
def openDevice (sink : Option SinkRef) (s : State) : State :=
  match s.openAnswer with
  | .deviceNotFound =>
    (s.tookOpen.emit (.xportOpen Config.vendorId Config.productId .deviceNotFound)).setRet
      (.error .deviceNotFound)
  | .found h => configureDevice sink (acquireHandle h s)

/-- CTRL.OPEN (R170). Its precondition is a fresh instance: the slot itself when there is none, a new
one when the current instance has stopped (R208, R241; log 9). While an instance runs, or is blocked
in its own open, the spec gives it no effect (R223; log 10). -/
def execCtrlOpen (sink : Option SinkRef) (s : State) : Host.Outcome State Fault Refusal :=
  if s.drv.phase = .none ∧ s.drv.stuck = false then .next (openDevice sink s)
  else if s.drv.phase = .stopped then .next (openDevice sink (s.setAside Driver.absent))
  else .refused .secondInstance

/-- KEEP_RUNNING <- 0 (R25, R178). -/
def stopRunning (s : State) : State := s.setDrv { s.drv with keepRunning := false }

/-- CTRL.CLOSE (R178): the flag, and the teardown whose guard no reachable state meets (C1, D22). A
teardown during a transfer would be undefined by the transport contract (R221; log 27). -/
def execCtrlClose (s : State) : Host.Outcome State Fault Refusal :=
  if s.drv.phase = .none then .fault .noInstance
  else if s.drv.handleOpen = true ∧ s.drv.phase = .stopped then
    if s.drv.inFlight then .fault .closeInFlight
    else .next ((stopRunning s).closeHandle.setRet .done)
  else .next ((stopRunning s).setRet .done)

/-- CTRL.SET_SINK sink (R179): in any PHASE other than NONE. -/
def execCtrlSetSink (k : SinkRef) (s : State) : Host.Outcome State Fault Refusal :=
  if s.drv.phase = .none then .fault .noInstance
  else .next ((s.setDrv { s.drv with sink := .ref k }).setRet .done)

end Sys2Proof.Machine
end

