-- ==== Sys2Proof/Machine/Response.lean ====
section
/-! DEFINITION. The report parser's operations on one response (spec/41_report_parser.md). Each is one
atomic step in the DECODE phase; the events it produces are delivered by later steps (R136, R142). -/

namespace Sys2Proof.Machine

/-- The parse is done: the response is gone from the buffer, its events wait for delivery in order. -/
def Driver.parsed (d : Driver) (evs : List Event) : Driver := { d with rx := none, pending := evs }

/-- RSP.UPDATE's state after the accumulator has answered the new POS (R131). -/
def afterUpdate (rpt : Report) (newPos : Int) (s : State) : State :=
  s.tookOrder.setDrv
    ({ s.drv with
        pos := newPos
        rockerLast := if rpt.rocker ≠ s.drv.rockerLast then rpt.rocker else s.drv.rockerLast }.parsed
      (arrange s.eventOrder (updateEvents s.drv.rockerLast newPos rpt)))

/-- RSP.UPDATE's step (R131 to R136); with a finite P_POS_BITS it may fault, and then nothing is
written (R139). -/
def parseUpdate (rpt : Report) (s : State) : Host.Outcome State Fault Refusal :=
  match accumulate s.posBits s.drv.pos rpt.delta with
  | some newPos => .next (afterUpdate rpt newPos s)
  | none => .fault .positionOverflow

/-- RSP.MISMATCH's step: no state write, no events (R137). PROTOCOL_MISMATCH leaves no record (R200,
C4). -/
def discardResponse (s : State) : State := s.setDrv (s.drv.parsed [])

/-- RSP.OPAQUE's step: ID_OUT <- rpt, no events (R138). -/
def outputId (rpt : Report) (s : State) : State := (s.emit (.idOut rpt)).setDrv (s.drv.parsed [])

/-- RSP dispatch (R130). -/
def dispatchResponse (rpt : Report) (s : State) : Host.Outcome State Fault Refusal :=
  if rpt.b0 ≠ s.drv.expectedOp then .next (discardResponse s)
  else if s.drv.expectedOp = Config.opGetUpdate then parseUpdate rpt s
  else .next (outputId rpt s)

/-- RSP.UPDATE (R131). -/
def execRspUpdate (rpt : Report) (s : State) : Host.Outcome State Fault Refusal :=
  whenDue (.rspUpdate rpt) s (parseUpdate rpt s)

/-- RSP.OPAQUE (R138). -/
def execRspOpaque (rpt : Report) (s : State) : Host.Outcome State Fault Refusal :=
  whenDue (.rspOpaque rpt) s (.next (outputId rpt s))

/-- RSP.MISMATCH (R137). -/
def execRspMismatch (rpt : Report) (s : State) : Host.Outcome State Fault Refusal :=
  whenDue (.rspMismatch rpt) s (.next (discardResponse s))

end Sys2Proof.Machine
end

