-- ==== Sys2Proof/Machine/Sequencer.lean ====
section
/-! DEFINITION. The sequencer's operations, SEQ.POLL phase by phase and SEQ.EXIT
(spec/42_lifecycle.md R173 to R177, R180, R181). A transport call and its return are two steps, and so
is each delivery (spec/00_scope.md R12; log 4). -/

namespace Sys2Proof.Machine

/-- PHASE <- p, with no transfer in flight (R10, R27). -/
def setPhase (p : Phase) (s : State) : State := s.setDrv { s.drv with phase := p, inFlight := false }

/-- A call of the sequencer does not return, now or ever (R251, R254, I17; log 5). -/
def blockForever (s : State) : State := s.setDrv { s.drv with stuck := true }

/-- TOP: the only place the loop reads KEEP_RUNNING (R173). -/
def pollTop (s : State) : State :=
  if s.drv.keepRunning then setPhase .write s else loopExit .stopRequested s

/-- WRITE, the call: EXPECTED_OP <- 0x75, and get-update is handed to the transport (R174). -/
def issueWrite (s : State) : State :=
  (s.emit (.memWrite s.drv.handle getUpdateReport)).setDrv
    { s.drv with expectedOp := Config.opGetUpdate, inFlight := true }

/-- WRITE, the return (R174): a failure is raised once the transfer is over (R221). -/
def returnWrite (s : State) : State :=
  match s.writeAnswer with
  | .ok => setPhase .read s.tookWrite
  | .ioFailure => raiseInLoop (.transport .write) s.tookWrite.landed
  | .never => blockForever s.tookWrite

/-- READ, the call (R175). -/
def issueRead (s : State) : State :=
  (s.emit (.memRead s.drv.handle)).setDrv { s.drv with inFlight := true }

/-- READ, the return: 8 bytes are the response, any other buffer is an unexpected failure, and IoFailure
and Timeout are transport errors, raised once the transfer is over (R175, R221, D16, D17). -/
def returnRead (s : State) : State :=
  match s.readAnswer with
  | .buffer bytes =>
    match Report.ofBytes bytes with
    | some rpt =>
      s.tookRead.setDrv { s.drv with phase := .decode, inFlight := false, rx := some rpt }
    | none => raiseInLoop .length s.tookRead.landed
  | .ioFailure => raiseInLoop (.transport .read) s.tookRead.landed
  | .timeout => raiseInLoop (.transport .read) s.tookRead.landed
  | .never => blockForever s.tookRead

/-- The sink has received the event, and the next one is due (R142). -/
def receive (e : Event) (rest : List Event) (s : State) : State :=
  (s.emit (.hook s.drv.sink e)).setDrv { s.drv with pending := rest }

/-- Deliver(SINK, ev): one hook call to the sink of this moment (R142, R143). DEFAULT discards the event
(R30); a hook of the embedder returns, fails or never returns (R144, R254; log 8). -/
def deliver (e : Event) (rest : List Event) (s : State) : State :=
  match s.drv.sink with
  | .default => receive e rest s
  | .ref _ =>
    match s.hookAnswer with
    | .ok => receive e rest s.tookHook
    | .failure => raiseInLoop .sink s.tookHook
    | .never => blockForever s.tookHook

/-- DECODE after the parse: the next event, or on to SLEEP (R176). -/
def deliverNext (s : State) : State :=
  match s.drv.pending with
  | [] => setPhase .sleep s
  | e :: rest => deliver e rest s

/-- DECODE: the parse first, then the deliveries (R176). -/
def pollDecode (s : State) : Host.Outcome State Fault Refusal :=
  match s.drv.rx with
  | some rpt => dispatchResponse rpt s
  | none => .next (deliverNext s)

/-- SEQ.POLL: one step of the phase at which the loop stands (R173 to R177). A loop blocked for ever
keeps its phase (R251, L11); a stopped loop has no successor (R181). -/
def execSeqPoll (s : State) : Host.Outcome State Fault Refusal :=
  match s.drv.phase with
  | .none => .fault .noInstance
  | .stopped => .refused .notDue
  | .top => if s.drv.stuck then .next s else .next (pollTop s)
  | .write =>
    if s.drv.stuck then .next s
    else .next (if s.drv.inFlight then returnWrite s else issueWrite s)
  | .read =>
    if s.drv.stuck then .next s
    else .next (if s.drv.inFlight then returnRead s else issueRead s)
  | .decode => if s.drv.stuck then .next s else pollDecode s
  | .sleep => if s.drv.stuck then .next s else .next (setPhase .top s)

/-- SEQ.EXIT: LoopExit(STOP_REQUESTED), taken at TOP when KEEP_RUNNING = 0 (R180). -/
def execSeqExit (s : State) : Host.Outcome State Fault Refusal :=
  whenDue .seqExit s (.next (loopExit .stopRequested s))

/-- The `failure` turn: an unexpected failure is raised in the loop at any step of it (R226, I14). DESIGN
CHOICE: while a transfer is in flight the failure comes out of the call itself and ends the transfer, so
that the loop exit never closes the handle in mid-transfer (R221, R252; log 7). A loop that is not there,
has stopped or is blocked for ever takes no step, and nothing happens (R181, R251). -/
def failLoop (s : State) : State := if s.loopMoves then raiseInLoop .other s.landed else s

end Sys2Proof.Machine
end

