-- ==== Sys2Proof/Machine/Dispatch.lean ====
section
/-! DEFINITION. The dispatch: one arm per row of spec/opcode_table.json. -/

namespace Sys2Proof.Machine

def exec (i : Instr) (s : State) : Host.Outcome State Fault Refusal :=
  match i with
  | .cmdGetUpdate => Sys2Proof.Machine.execCmdGetUpdate s
  | .cmdGetId => Sys2Proof.Machine.execCmdGetId s
  | .cmdConfigure mute scale => Sys2Proof.Machine.execCmdConfigure mute scale s
  | .cmdReset => Sys2Proof.Machine.execCmdReset s
  | .cmdLedAux payload => Sys2Proof.Machine.execCmdLedAux payload s
  | .cmdBeep payload => Sys2Proof.Machine.execCmdBeep payload s
  | .rspUpdate rpt => Sys2Proof.Machine.execRspUpdate rpt s
  | .rspOpaque rpt => Sys2Proof.Machine.execRspOpaque rpt s
  | .rspMismatch rpt => Sys2Proof.Machine.execRspMismatch rpt s
  | .ctrlOpen sink => Sys2Proof.Machine.execCtrlOpen sink s
  | .ctrlClose => Sys2Proof.Machine.execCtrlClose s
  | .ctrlSetSink sink => Sys2Proof.Machine.execCtrlSetSink sink s
  | .seqPoll => Sys2Proof.Machine.execSeqPoll s
  | .seqExit => Sys2Proof.Machine.execSeqExit s

end Sys2Proof.Machine
end

