-- ==== Sys2Proof/Machine/Fetch.lean ====
section
/-! DEFINITION. Where the machine takes its next operation from: the embedder's calls
(spec/00_scope.md R13; spec/30_encoding.md R66) and the sequencer's own next step; and how an operation
is placed there (log 2). -/

namespace Sys2Proof.Machine

/-- What the embedder's context may invoke: CTRL.* (R13, R215); RSP.* and SEQ.* are the sequencer's (R13,
R66, R215). DESIGN CHOICE: the pure CMD.* operations, which no rule gives to a context, are the
embedder's (log 32). -/
def embedderMay : Instr → Bool
  | .cmdGetUpdate => true
  | .cmdGetId => true
  | .cmdConfigure _ _ => true
  | .cmdReset => true
  | .cmdLedAux _ => true
  | .cmdBeep _ => true
  | .rspUpdate _ => false
  | .rspOpaque _ => false
  | .rspMismatch _ => false
  | .ctrlOpen _ => true
  | .ctrlClose => true
  | .ctrlSetSink _ => true
  | .seqPoll => false
  | .seqExit => false

/-- The operation of the embedder's next call, decoded, or the reason it is refused. DESIGN CHOICE: a call
of a CMD operation arrives as its encoded outbound word, since the spec names no port for its operands
(log 33). -/
def State.fetchCall (s : State) : Except RefuseReason Instr :=
  match decode s.drv.expectedOp s.nextCall with
  | .ok i => if embedderMay i then .ok i else .error .internalStep
  | .error why => .error why

/-- A word offered as the embedder's very next call. -/
def State.offerCall (s : State) (w : PortWord) : State :=
  { s with inputs := { s.inputs with turns := .call :: s.inputs.turns, calls := w :: s.inputs.calls } }

/-- The sequencer moves next. -/
def State.offerLoop (s : State) : State :=
  { s with inputs := { s.inputs with turns := .loop :: s.inputs.turns } }

/-- The instance with its loop at the beginning of PHASE p, with nothing in progress (log 2). -/
def Driver.standAt (d : Driver) (p : Phase) : Driver :=
  { d with phase := p, inFlight := false, stuck := false, rx := none, pending := [] }

/-- A slot on which CTRL.OPEN has its precondition: the state's own where it has, else one without an
instance (R170; log 2). -/
def State.openable (s : State) : State :=
  if (s.drv.phase = .none ∧ s.drv.stuck = false) ∨ s.drv.phase = .stopped then s
  else s.setDrv Driver.absent

/-- The port word placed so that the very next step takes its operation (log 2): a response in the
buffer of the DECODE phase under the EXPECTED_OP it is read with; SEQ.POLL and SEQ.EXIT by the phase
and KEEP_RUNNING that select them; CTRL.OPEN on a slot without an instance; every other word as the
embedder's call. -/
def State.place (s : State) (expected : Byte) (w : PortWord) : State :=
  match w, decode expected w with
  | .rx rpt, _ =>
    (s.setDrv { s.drv.standAt .decode with rx := some rpt, expectedOp := expected }).offerLoop
  | _, .ok .seqPoll =>
    if s.due = some .seqPoll then s.offerLoop
    else (s.setDrv { s.drv.standAt .top with keepRunning := true }).offerLoop
  | _, .ok .seqExit =>
    if s.due = some .seqExit then s.offerLoop
    else (s.setDrv { s.drv.standAt .top with keepRunning := false }).offerLoop
  | _, .ok (.ctrlOpen _) => s.openable.offerCall w
  | _, _ => (if s.openBlocked then s.setDrv Driver.absent else s).offerCall w

end Sys2Proof.Machine
end

