-- ==== Sys2Proof/Machine/Step.lean ====
section
/-! DEFINITION. One step of the machine: whose turn it is, and what that agent does
(spec/00_scope.md R12, R13). -/

namespace Sys2Proof.Machine

/-- The embedder's turn: its call is decoded and carried out, or refused with the refusal mark (R66,
R206); a call blocked in CTRL.OPEN blocks the embedder (log 28). -/
def callStep (s : State) : Host.Outcome State Fault Refusal :=
  if s.openBlocked then .next s
  else
    match s.fetchCall with
    | .ok i => exec i s.tookCall
    | .error why => .next (refuse why s.tookCall)

/-- The sequencer's turn: the operation that is due, or nothing where it has none: no instance, a loop
that stopped or one that is blocked for ever (R181, R251). -/
def loopStep (s : State) : Host.Outcome State Fault Refusal :=
  match s.due with
  | some i => exec i s
  | none => .next s

/-- One step: the next turn is taken, and its agent moves (R12, R13; log 3, log 7). -/
def step (s : State) : Host.Outcome State Fault Refusal :=
  match s.nextTurn with
  | .call => callStep s.tookTurn
  | .loop => loopStep s.tookTurn
  | .failure => .next (failLoop s.tookTurn)

/-- The state with the row's word where the very next step takes its operation from (log 2, log 15). -/
def State.withFetchWord (s : State) (nbits w : Nat) : State :=
  s.place (tableExpectedOp w) (tablePortWord nbits w)

end Sys2Proof.Machine
end

