-- ==== Sys2Proof/Safety.lean ====
section
/-! DEFINITION. What a sound state is, which order of port calls the block keeps, and what it is for two
states to hold the same instance: the words the claims use (spec/10_state.md R26 to R31, R35;
spec/20_memory.md R41, R42, R49; spec/60_exceptions.md R220 to R222). -/

namespace Sys2Proof.Machine

/-- The relations the spec states between PHASE, the handle, the cause and the configuration of one
instance. -/
abbrev Driver.SoundLife (d : Driver) : Prop :=
  -- no instance: a handle is held only by a CTRL.OPEN that blocks in its configure write (R170, R172)
  (d.phase = .none → d.handleOpen = d.stuck ∧ d.inFlight = d.stuck ∧ d.closeCount ≤ 1 ∧
    (d.handleOpen = true → d.closeCount = 0)) ∧
  -- the loop has exited: the handle was closed exactly once, the cause is recorded (R28, R31)
  (d.phase = .stopped → d.handleOpen = false ∧ d.closeCount = 1 ∧ d.exitCause ≠ .none ∧
    d.inFlight = false ∧ d.stuck = false) ∧
  -- the loop runs: the handle is open and was never closed (R26)
  (d.phase ≠ .none → d.phase ≠ .stopped → d.handleOpen = true ∧ d.closeCount = 0) ∧
  -- EXIT_CAUSE is NONE while PHASE is not STOPPED (R28)
  (d.phase ≠ .stopped → d.exitCause = .none) ∧
  -- the configuration is what CTRL.OPEN set, and get-update is what the loop asks (R24, R29)
  (d.phase ≠ .none → d.mute = 1 ∧ d.scale = 0 ∧ d.expectedOp = 0x75)

/-- The relations between PHASE and what an iteration has in progress. -/
abbrev Driver.SoundWork (d : Driver) : Prop :=
  -- a transfer is in flight in WRITE and READ alone, or in the configure write (R49, R221)
  (d.inFlight = true → d.phase = .write ∨ d.phase = .read ∨ d.phase = .none) ∧
  -- a response waits for its parse, and events for their delivery, in DECODE alone (R176)
  (d.rx ≠ none → d.phase = .decode ∧ d.pending = []) ∧
  (d.pending ≠ [] → d.phase = .decode) ∧
  -- what can block for ever is a transfer or a hook call (R251, R254)
  (d.stuck = true → d.inFlight = true ∨ (d.phase = .decode ∧ d.pending ≠ []))

/-- One instance is sound. -/
abbrev Driver.Sound (d : Driver) : Prop := d.SoundLife ∧ d.SoundWork

/-- The current instance is sound, and every instance before it has stopped and is sound. -/
abbrev State.Sound (s : State) : Prop :=
  s.drv.Sound ∧ ∀ d ∈ s.retired, d.phase = .stopped ∧ d.Sound

/-! ## The order of the port calls -/

/-- How far an exchange on the ports has come. -/
inductive PortState where
  /-- No handle is open. -/
  | closed
  /-- A handle is open and nothing has been sent on it. -/
  | opened (h : Handle)
  /-- The configure command has been sent. -/
  | configured (h : Handle)
  /-- A get-update has been sent, and its response has not been asked for. -/
  | asked (h : Handle)
  /-- The response has been asked for; its events may be delivered. -/
  | answered (h : Handle)
  deriving DecidableEq, Repr, Inhabited

/-- The port call that may come next: configure first, then get-update and its one read in turn, events
after the read, all on the handle that was opened, and a close that ends it (R41, R42, R49, R244). -/
def portNext : PortState → PortCall → Option PortState
  | .closed, .xportOpen v p (.found h) =>
    if v = Config.vendorId ∧ p = Config.productId then some (.opened h) else none
  | .closed, .xportOpen v p .deviceNotFound =>
    if v = Config.vendorId ∧ p = Config.productId then some .closed else none
  | .opened h, .memWrite h' r =>
    if h' = h ∧ r = ⟨0x43, 0x01, 0, 0, 0, 0, 0, 0⟩ then some (.configured h) else none
  | .configured h, .memWrite h' r =>
    if h' = h ∧ r = ⟨0x75, 0, 0, 0, 0, 0, 0, 0⟩ then some (.asked h) else none
  | .answered h, .memWrite h' r =>
    if h' = h ∧ r = ⟨0x75, 0, 0, 0, 0, 0, 0, 0⟩ then some (.asked h) else none
  | .asked h, .memRead h' => if h' = h then some (.answered h) else none
  | .answered h, .hook _ _ => some (.answered h)
  | .answered h, .idOut _ => some (.answered h)
  | .configured h, .xportClose h' => if h' = h then some .closed else none
  | .asked h, .xportClose h' => if h' = h then some .closed else none
  | .answered h, .xportClose h' => if h' = h then some .closed else none
  | _, _ => none

/-- A whole record of port calls, from no handle open; `none` where a call came out of order. -/
def portRun (calls : List PortCall) : Option PortState :=
  calls.foldl (fun p c => p.bind (fun q => portNext q c)) (some .closed)

/-- How far the exchange can have come where an instance stands (R27, R174 to R177). -/
def Driver.portStates (d : Driver) : List PortState :=
  match d.phase with
  | .none => if d.stuck then [.configured d.handle] else [.closed]
  | .top => [.configured d.handle, .answered d.handle]
  | .write => if d.inFlight then [.asked d.handle] else [.configured d.handle, .answered d.handle]
  | .read => if d.inFlight then [.answered d.handle] else [.asked d.handle]
  | .decode => [.answered d.handle]
  | .sleep => [.answered d.handle]
  | .stopped => [.closed]

/-- The record of port calls is in order and fits where the instance stands. -/
abbrev State.Ordered (s : State) : Prop := ∃ p ∈ s.drv.portStates, portRun s.trace = some p

/-- The two states hold the same instance: there is one, and none was put aside between them. -/
abbrev sameInstance (s t : State) : Prop := s.drv.phase ≠ .none ∧ t.retired = s.retired

/-- The phase moves of R27 and R181: along the loop, to STOPPED, or none. -/
def phaseMove (p q : Phase) : Bool :=
  match p, q with
  | .top, .write => true
  | .write, .read => true
  | .read, .decode => true
  | .decode, .sleep => true
  | .sleep, .top => true
  | p, .stopped => decide (p ≠ .none)
  | p, q => decide (p = q)

/-! ## The words of the claims about one operation -/

/-- The loop waits in DECODE with this response in its buffer (R175, R176). -/
abbrev State.awaits (s : State) (rpt : Report) : Prop :=
  s.drv.phase = .decode ∧ s.drv.stuck = false ∧ s.drv.rx = some rpt

/-- The loop runs in this phase and no call of it blocks. -/
abbrev State.runsIn (s : State) (p : Phase) : Prop := s.drv.phase = p ∧ s.drv.stuck = false

/-- A CMD operation (R11). -/
def isCommand : Instr → Bool
  | .cmdGetUpdate => true
  | .cmdGetId => true
  | .cmdConfigure _ _ => true
  | .cmdReset => true
  | .cmdLedAux _ => true
  | .cmdBeep _ => true
  | .rspUpdate _ => false
  | .rspOpaque _ => false
  | .rspMismatch _ => false
  | .ctrlOpen _ => false
  | .ctrlClose => false
  | .ctrlSetSink _ => false
  | .seqPoll => false
  | .seqExit => false

/-- The tick delta of a response from its two bytes as numbers, low byte first: below 2^15 as it is,
else less 2^16 (R9, R44, R67). -/
def wireDelta (rpt : Report) : Int :=
  if rpt.b1.toNat + 256 * rpt.b2.toNat < 32768 then rpt.b1.toNat + 256 * rpt.b2.toNat
  else rpt.b1.toNat + 256 * rpt.b2.toNat - 65536

/-- Bits 6:5 of the control byte as a number (R68). -/
def wireRocker (rpt : Report) : Nat := rpt.b3.toNat / 32 % 4

/-- Bits 3:0 of the control byte as a number (R68). -/
def wireButtons (rpt : Report) : Nat := rpt.b3.toNat % 16

/-- Bit 4 of the control byte: true is hold (R68). -/
def wireHold (rpt : Report) : Bool := decide (rpt.b3.toNat / 16 % 2 = 1)

/-- The events of a matching response, from its bytes (R132, R133, R134). -/
def wireEvents (pos : Int) (last : BitVec 2) (rpt : Report) : List Event :=
  (if wireDelta rpt = 0 then [] else [.rotate (pos + wireDelta rpt)])
    ++ (if wireRocker rpt = last.toNat then [] else [.rocker (BitVec.ofNat 2 (wireRocker rpt))])
    ++ (if wireButtons rpt = 0 then [] else [.button (BitVec.ofNat 4 (wireButtons rpt)) (wireHold rpt)])

/-- The events of a response to get-update: those of its bytes when byte 0 echoes it, none when it is
discarded (R130, R131, R137). -/
def responseEvents (pos : Int) (last : BitVec 2) (rpt : Report) : List Event :=
  if rpt.b0 = 0x75 then wireEvents pos last rpt else []

/-- The next step is the loop's, and whatever its iteration calls there returns: the write is ok, the read
gives this response, the hook returns (R218, R144). -/
abbrev State.answers (s : State) (rpt : Report) : Prop :=
  s.nextTurn = .loop ∧
  (s.drv.phase = .write → s.drv.inFlight = true → s.tookTurn.writeAnswer = .ok) ∧
  (s.drv.phase = .read → s.drv.inFlight = true → s.tookTurn.readAnswer = .buffer rpt.bytes) ∧
  (s.drv.phase = .decode → s.drv.rx = none → s.drv.pending ≠ [] → s.drv.sink ≠ .default →
    s.tookTurn.hookAnswer = .ok)

/-- POS plus the delta stays within P_POS_BITS, where that is finite (R139). -/
abbrev withinWidth (posBits : Option Nat) (x : Int) : Prop :=
  ∀ n, posBits = some n → -(2 ^ (n - 1) : Int) ≤ x ∧ x ≤ 2 ^ (n - 1) - 1

/-- The loop has exited from `s` with this cause, and `t` is what is left (R203): the handle closed if
it was open, nothing of the iteration, everything else as it was, up to the inputs taken. -/
abbrev exitedWith (cause : ExitCause) (s t : State) : Prop :=
  t.drv =
      { s.drv with
        handleOpen := false
        closeCount := if s.drv.handleOpen then s.drv.closeCount + 1 else s.drv.closeCount
        exitCause := cause
        phase := .stopped
        inFlight := false
        rx := none
        pending := [] } ∧
    t.trace = (if s.drv.handleOpen then s.trace ++ [.xportClose s.drv.handle] else s.trace) ∧
    t.retired = s.retired ∧ t.ret = s.ret ∧ t.refusalMark = s.refusalMark ∧ t.posBits = s.posBits

/-- The state with other device state: POS, ROCKER_LAST, MUTE, SCALE (R21, R33). -/
def State.withDevice (s : State) (pos : Int) (last : BitVec 2) (mute : BitVec 1) (scale : BitVec 7) :
    State :=
  { s with drv := { s.drv with pos := pos, rockerLast := last, mute := mute, scale := scale } }

/-- Two outcomes that the embedder cannot tell apart: the same answer, port calls, mark and STATUS
(R33, R36). -/
def sameToEmbedder : Host.Outcome State Fault Refusal → Host.Outcome State Fault Refusal → Prop
  | .next t, .next u =>
    t.ret = u.ret ∧ t.trace = u.trace ∧ t.refusalMark = u.refusalMark ∧ t.status = u.status
  | .fault f, .fault g => f = g
  | .refused q, .refused r => q = r
  | _, _ => False

/-- A machine without an instance, before any CTRL.OPEN, with the inputs given (R34). -/
def State.unopened (inputs : Inputs) : State where
  drv := Driver.absent
  retired := []
  trace := []
  ret := .done
  refusalMark := false
  posBits := none
  inputs := inputs

end Sys2Proof.Machine
end

