-- ==== Sys2Proof/Certificates/Slice0/Obligations.lean ====
section
/-! DEFINITION. The statements about the model, from the numbered rules of spec/. -/

open Sys2Proof Sys2Proof.Machine

/-! ## Encoding -/

/-- Words written out from the tables of spec/95_test_vectors.md 2.1 and 2.7 and the codes of
R66 decode to the operations they stand for. That the word of E6, CMD.BEEP [01 02], reads back as a
payload of 7 bytes, its zeros included, is the model's choice (log 26), since padding cannot be told from
payload bytes 0x00 (R65, R100, R106). -/
def Obligations.WordsOfTheSpecDecode : Prop :=
  decode 0x75 (.tx [0x75, 0, 0, 0, 0, 0, 0, 0]) = .ok .cmdGetUpdate ∧
  decode 0x75 (.tx [0x43, 0x0A, 0, 0, 0, 0, 0, 0]) = .ok (.cmdConfigure 0 5) ∧
  decode 0x75 (.tx [0x43, 0xFF, 0, 0, 0, 0, 0, 0]) = .ok (.cmdConfigure 1 127) ∧
  decode 0x75 (.tx [0x5A, 1, 2, 0, 0, 0, 0, 0]) = .ok (.cmdBeep [1, 2, 0, 0, 0, 0, 0]) ∧
  decode 0x75 (.rx ⟨0x75, 5, 0, 0x21, 0, 0, 0, 0⟩) = .ok (.rspUpdate ⟨0x75, 5, 0, 0x21, 0, 0, 0, 0⟩) ∧
  decode 0x75 (.rx ⟨0x3D, 5, 0, 0x41, 0, 0, 0, 0⟩) = .ok (.rspMismatch ⟨0x3D, 5, 0, 0x41, 0, 0, 0, 0⟩) ∧
  decode 0x75 (.ctrl 2 (some 7)) = .ok (.ctrlSetSink 7) ∧
  decode 0x75 (.ctrl 4 none) = .ok .seqExit

/-- Every well-formed operation, on every port, with every operand: the decoder reads back from its
word what the encoder wrote, a response under an EXPECTED_OP its table row admits. An opaque payload
comes back zero-filled to 7 bytes (R65, R100: padding cannot be told from zeros; log 26), and one of
7 bytes comes back as it was. -/
def Obligations.DecodeOfEncodeIsTheOperation : Prop :=
  ∀ (i : Instr) (expected : Byte), i.wellFormed = true → i.admits expected = true →
    decode expected (encode i) = .ok (canon i) ∧
    ((∀ p, i = .cmdLedAux p ∨ i = .cmdBeep p → p.length = 7) → canon i = i)

/-- Every word that decodes, under whatever EXPECTED_OP, is the encoding of what it decodes to, an
outbound word of 8 bytes: no bit of a word is dropped, and no two words decode to one operation. On control
words it holds because a surplus operand on CLOSE, SEQ.POLL or SEQ.EXIT is refused, which is the model's
choice (log 16): R66 says that they have none, not what a surplus one does. It does not say that a word
has one meaning: an inbound word is another operation under another EXPECTED_OP (R76, R130). -/
def Obligations.EncodeOfDecodeIsTheWord : Prop :=
  ∀ (w : PortWord) (expected : Byte) (i : Instr), (∀ bytes, w = .tx bytes → bytes.length = 8) →
    decode expected w = .ok i → encode i = w

/-- Which outbound and inbound words are which operation (R76): byte 0 outside the six opcodes is no
command; get-update, get-id and reset need bytes 1 to 7 zero, configure bytes 2 to 7, LED-aux and
beep nothing; inbound, byte 0 against EXPECTED_OP first. That an LED-aux or beep word reads back as a
payload of all its 7 bytes, trailing zeros included, is the model's choice (log 26; R61, R65, R100, R105,
R106). -/
def Obligations.DecodersSelectTheRow : Prop :=
  (∀ (e : Byte) (op b1 b2 b3 b4 b5 b6 b7 : Byte),
    (op ∉ [(0x75 : Byte), 0x3D, 0x43, 0x72, 0x4F, 0x5A] →
      decode e (.tx [op, b1, b2, b3, b4, b5, b6, b7]) = .error .opcode) ∧
    (∀ i, (op = 0x75 ∧ i = .cmdGetUpdate) ∨ (op = 0x3D ∧ i = .cmdGetId) ∨ (op = 0x72 ∧ i = .cmdReset) →
      decode e (.tx [op, b1, b2, b3, b4, b5, b6, b7]) =
        if b1 = 0 ∧ b2 = 0 ∧ b3 = 0 ∧ b4 = 0 ∧ b5 = 0 ∧ b6 = 0 ∧ b7 = 0 then .ok i
        else .error .padding) ∧
    (op = 0x43 →
      decode e (.tx [op, b1, b2, b3, b4, b5, b6, b7]) =
        if b2 = 0 ∧ b3 = 0 ∧ b4 = 0 ∧ b5 = 0 ∧ b6 = 0 ∧ b7 = 0 then
          .ok (.cmdConfigure (b1.toNat % 2) (b1.toNat / 2))
        else .error .padding) ∧
    (op = 0x4F →
      decode e (.tx [op, b1, b2, b3, b4, b5, b6, b7]) = .ok (.cmdLedAux [b1, b2, b3, b4, b5, b6, b7])) ∧
    (op = 0x5A →
      decode e (.tx [op, b1, b2, b3, b4, b5, b6, b7]) = .ok (.cmdBeep [b1, b2, b3, b4, b5, b6, b7]))) ∧
  (∀ (e : Byte) (rpt : Report),
    (rpt.b0 ≠ e → decode e (.rx rpt) = .ok (.rspMismatch rpt)) ∧
    (rpt.b0 = e → e = 0x75 → decode e (.rx rpt) = .ok (.rspUpdate rpt)) ∧
    (rpt.b0 = e → e = 0x3D → decode e (.rx rpt) = .ok (.rspOpaque rpt)))

/-- The eight control codes with the operands R66 gives them, and what the embedder's call of a reserved
code or of an internal step does: it is refused, with nothing written but the refusal mark. -/
def Obligations.ControlCodesSelectOrAreRefused : Prop :=
  (∀ (e : Byte) (sink : Option SinkRef) (k : SinkRef),
    decode e (.ctrl 0 sink) = .ok (.ctrlOpen sink) ∧ decode e (.ctrl 1 none) = .ok .ctrlClose ∧
    decode e (.ctrl 2 (some k)) = .ok (.ctrlSetSink k) ∧ decode e (.ctrl 3 none) = .ok .seqPoll ∧
    decode e (.ctrl 4 none) = .ok .seqExit) ∧
  (∀ (s : State) (cop : BitVec 3) (sink : Option SinkRef),
    s.nextTurn = .call → s.tookTurn.nextCall = .ctrl cop sink → s.openBlocked = false →
    (3 ≤ cop.toNat ∧ sink = none) ∨ 5 ≤ cop.toNat →
    ∃ why, why = (if cop.toNat ≤ 4 then RefuseReason.internalStep else .reservedControl) ∧
      step s = .next { s with
        refusalMark := true
        ret := .refused why
        inputs := s.tookTurn.tookCall.inputs })

/-- W(rpt) is the 64-bit number whose bits 8 i + 7 to 8 i are byte i (R8), and it determines the
report. -/
def Obligations.ReportWordIsLittleEndian : Prop :=
  ∀ rpt : Report, rpt.word < 2 ^ 64 ∧ Report.ofWord rpt.word = rpt ∧
    ∀ i : Fin 8, rpt.word / 2 ^ (8 * i.val) % 2 ^ 8 = (rpt.bytes.getD i.val 0).toNat

/-! ## The command encoder -/

/-- Frame(op, p) (R100): its two refusals in their order, and the 8 bytes it builds. -/
def Obligations.FrameIsOpcodePayloadZeros : Prop :=
  ∀ (op : Byte) (p : List Byte),
    (op ∉ [(0x75 : Byte), 0x3D, 0x43, 0x72, 0x4F, 0x5A] → frame op p = .error .opcode) ∧
    (op ∈ [(0x75 : Byte), 0x3D, 0x43, 0x72, 0x4F, 0x5A] → 7 < p.length → frame op p = .error .payload) ∧
    (op ∈ [(0x75 : Byte), 0x3D, 0x43, 0x72, 0x4F, 0x5A] → p.length ≤ 7 →
      ∃ rpt, frame op p = .ok rpt ∧ rpt.bytes = op :: p ++ List.replicate (7 - p.length) 0)

/-- CMD.GET_UPDATE, CMD.GET_ID and CMD.RESET complete in every state: each returns its one report and
leaves everything else as it was (R101, R102, R104). -/
def Obligations.PlainCommandsReturnTheirReport : Prop :=
  ∀ s : State,
    exec .cmdGetUpdate s = .next { s with ret := .report ⟨0x75, 0, 0, 0, 0, 0, 0, 0⟩ } ∧
    exec .cmdGetId s = .next { s with ret := .report ⟨0x3D, 0, 0, 0, 0, 0, 0, 0⟩ } ∧
    exec .cmdReset s = .next { s with ret := .report ⟨0x72, 0, 0, 0, 0, 0, 0, 0⟩ }

/-- CMD.CONFIGURE completes in every state (R103): in range, the report with the option byte
2 * scale + mute; out of range, the refusal mark and no report. Nothing else changes. -/
def Obligations.ConfigureReturnsOptionByte : Prop :=
  ∀ (mute scale : Nat) (s : State),
    (mute ≤ 1 → scale ≤ 127 →
      exec (.cmdConfigure mute scale) s =
        .next { s with ret := .report ⟨0x43, BitVec.ofNat 8 (2 * scale + mute), 0, 0, 0, 0, 0, 0⟩ }) ∧
    (mute > 1 ∨ scale > 127 →
      exec (.cmdConfigure mute scale) s =
        .next { s with refusalMark := true, ret := .refused .operand })

/-- CMD.LED_AUX and CMD.BEEP complete in every state (R105, R106): the opcode, the payload as supplied,
zeros; a payload of more than 7 bytes sets the refusal mark. Nothing else changes. -/
def Obligations.OpaqueCommandsPassPayload : Prop :=
  ∀ (p : List Byte) (s : State),
    (p.length ≤ 7 →
      ∃ led beep : Report,
        led.bytes = 0x4F :: p ++ List.replicate (7 - p.length) 0 ∧
        beep.bytes = 0x5A :: p ++ List.replicate (7 - p.length) 0 ∧
        exec (.cmdLedAux p) s = .next { s with ret := .report led } ∧
        exec (.cmdBeep p) s = .next { s with ret := .report beep }) ∧
    (7 < p.length →
      exec (.cmdLedAux p) s = .next { s with refusalMark := true, ret := .refused .payload } ∧
      exec (.cmdBeep p) s = .next { s with refusalMark := true, ret := .refused .payload })

/-- Every CMD operation is a function of its operands alone (R107): the same answer in every state, and
no state of the block, no event and no port call comes of it. -/
def Obligations.CommandsDependOnOperandsAlone : Prop :=
  ∀ i : Instr, isCommand i = true →
    ∃ (answer : Ret) (refuses : Bool), ∀ s : State,
      exec i s = .next { s with ret := answer, refusalMark := s.refusalMark || refuses }

/-- The refusal mark (R206): a CMD operation either returns a report or sets the mark and produces
none; no later step clears the mark; no step of the sequencer sets it. -/
def Obligations.RefusalMarkStays : Prop :=
  (∀ (i : Instr) (s : State), isCommand i = true →
    (∃ rpt, exec i s = .next { s with ret := .report rpt }) ∨
    (∃ why, exec i s = .next { s with refusalMark := true, ret := .refused why })) ∧
  (∀ s t : State, step s = .next t → s.refusalMark = true → t.refusalMark = true) ∧
  (∀ s t : State, loopStep s = .next t → t.refusalMark = s.refusalMark)

/-! ## The report parser -/

/-- The tick delta is the two's complement value of bytes 1 and 2, low byte first, as it is: not scaled,
biased or clamped (R67). The two's complement reading is the spec's from general knowledge (G3; log 18). -/
def Obligations.DeltaIsSigned16 : Prop :=
  ∀ rpt : Report, rpt.delta = wireDelta rpt ∧ -32768 ≤ rpt.delta ∧ rpt.delta ≤ 32767

/-- The control fields are the bits R68 gives them. -/
def Obligations.ControlByteFields : Prop :=
  ∀ rpt : Report, rpt.buttons.toNat = wireButtons rpt ∧ rpt.tapHold = wireHold rpt ∧
    rpt.rocker.toNat = wireRocker rpt

/-- RSP dispatch (R130): the loop in DECODE takes the response operation that byte 0 and EXPECTED_OP
select, and SEQ.POLL there does what that operation does. -/
def Obligations.ResponseDispatch : Prop :=
  ∀ (s : State) (rpt : Report), s.awaits rpt →
    (rpt.b0 ≠ s.drv.expectedOp →
      s.due = some (.rspMismatch rpt) ∧ exec .seqPoll s = exec (.rspMismatch rpt) s) ∧
    (rpt.b0 = s.drv.expectedOp → s.drv.expectedOp = 0x75 →
      s.due = some (.rspUpdate rpt) ∧ exec .seqPoll s = exec (.rspUpdate rpt) s) ∧
    (rpt.b0 = s.drv.expectedOp → s.drv.expectedOp ≠ 0x75 →
      s.due = some (.rspOpaque rpt) ∧ exec .seqPoll s = exec (.rspOpaque rpt) s)

/-- RSP.UPDATE completes on every matching response that does not overflow a finite P_POS_BITS: POS,
ROCKER_LAST and the events are those of the three comparators, and nothing else changes but that the
response is used up and one order was drawn (R131 to R134). -/
def Obligations.UpdateResponseResult : Prop :=
  ∀ (s : State) (rpt : Report), s.awaits rpt → rpt.b0 = 0x75 → s.drv.expectedOp = 0x75 →
    withinWidth s.posBits (s.drv.pos + wireDelta rpt) →
    ∃ t, exec (.rspUpdate rpt) s = .next t ∧
      t.drv.pending.Perm (wireEvents s.drv.pos s.drv.rockerLast rpt) ∧
      t = { s with
        drv := { s.drv with
          pos := s.drv.pos + wireDelta rpt
          rockerLast := BitVec.ofNat 2 (wireRocker rpt)
          rx := none
          pending := t.drv.pending }
        inputs := { s.inputs with orders := s.inputs.orders.tail, draws := s.inputs.draws + 1 } }

/-- The order in which the events wait for delivery is the one P_EVENT_ORDER names for this report, for
each of its six values (R142): an event of an earlier kind stands before one of a later kind. The six
values are six different orders, and every permutation of the three kinds is one of them. That one order
is drawn for each report is the model's choice (log 6). -/
def Obligations.EventsWaitInTheDrawnOrder : Prop :=
  (∀ (s t : State) (rpt : Report), exec (.rspUpdate rpt) s = .next t →
    (t.drv.pending.map Event.kind).Sublist (orderKinds s.eventOrder) ∧
    (orderKinds s.eventOrder).Perm [.rotate, .rocker, .button]) ∧
  (∀ o o' : EventOrder, orderKinds o = orderKinds o' → o = o') ∧
  (∀ kinds : List EventKind, kinds.Perm [.rotate, .rocker, .button] → ∃ o, orderKinds o = kinds)

/-- POSITION_OVERFLOW (R139): with a finite width and POS within it, a sum that leaves it faults, so that
POS is not written and no event is produced; with the default width no response faults. -/
def Obligations.PositionOverflowFaults : Prop :=
  ∀ (s : State) (rpt : Report), s.awaits rpt → rpt.b0 = 0x75 → s.drv.expectedOp = 0x75 →
    (withinWidth s.posBits s.drv.pos → ¬ withinWidth s.posBits (s.drv.pos + wireDelta rpt) →
      exec (.rspUpdate rpt) s = .fault .positionOverflow) ∧
    (s.posBits = none → ∃ t, exec (.rspUpdate rpt) s = .next t)

/-- The three comparators are independent (R135): what a response does to POS and its rotate event
depends on the delta bytes and POS alone, and so for the rocker and for the buttons, whatever the
other fields and the rest of the state hold. -/
def Obligations.ComparatorsAreIndependent : Prop :=
  ∀ (s s' t t' : State) (rpt rpt' : Report),
    exec (.rspUpdate rpt) s = .next t → exec (.rspUpdate rpt') s' = .next t' →
    (rpt.b1 = rpt'.b1 → rpt.b2 = rpt'.b2 → s.drv.pos = s'.drv.pos →
      t.drv.pos = t'.drv.pos ∧
      t.drv.pending.filter (fun e => decide (e.kind = .rotate)) =
        t'.drv.pending.filter (fun e => decide (e.kind = .rotate))) ∧
    (wireRocker rpt = wireRocker rpt' → s.drv.rockerLast = s'.drv.rockerLast →
      t.drv.rockerLast = t'.drv.rockerLast ∧
      t.drv.pending.filter (fun e => decide (e.kind = .rocker)) =
        t'.drv.pending.filter (fun e => decide (e.kind = .rocker))) ∧
    (wireButtons rpt = wireButtons rpt' → wireHold rpt = wireHold rpt' →
      t.drv.pending.filter (fun e => decide (e.kind = .button)) =
        t'.drv.pending.filter (fun e => decide (e.kind = .button)))

/-- The reserved fields, bit 7 of the control byte and bytes 4 to 7, change nothing and are no error:
two responses that differ in them alone have the same outcome (R72). -/
def Obligations.ReservedFieldsIgnored : Prop :=
  ∀ (s : State) (rpt rpt' : Report),
    rpt.b0 = rpt'.b0 → rpt.b1 = rpt'.b1 → rpt.b2 = rpt'.b2 →
    rpt.b3.toNat % 128 = rpt'.b3.toNat % 128 →
    exec (.rspUpdate rpt) { s with drv := { s.drv with rx := some rpt } } =
      exec (.rspUpdate rpt') { s with drv := { s.drv with rx := some rpt' } }

/-- RSP.MISMATCH completes on every response whose byte 0 is not EXPECTED_OP: the response is discarded,
with no event and no other change, and the loop goes on in DECODE (R137). -/
def Obligations.MismatchedResponseDiscarded : Prop :=
  ∀ (s : State) (rpt : Report), s.awaits rpt → rpt.b0 ≠ s.drv.expectedOp →
    exec (.rspMismatch rpt) s = .next { s with drv := { s.drv with rx := none, pending := [] } }

/-- RSP.OPAQUE completes on every response that echoes an EXPECTED_OP other than get-update's: its 8
bytes go whole to ID_OUT, with no event and no other change; and in a sound state, where EXPECTED_OP
is 0x75, the loop never takes it (R138). -/
def Obligations.OpaqueResponseGoesToIdOut : Prop :=
  (∀ (s : State) (rpt : Report), s.awaits rpt → rpt.b0 = s.drv.expectedOp → s.drv.expectedOp ≠ 0x75 →
    exec (.rspOpaque rpt) s =
      .next { s with
        drv := { s.drv with rx := none, pending := [] }
        trace := s.trace ++ [.idOut rpt] }) ∧
  (∀ (s : State) (rpt : Report), s.Sound → s.due ≠ some (.rspOpaque rpt))

/-- The sink does not affect which events are produced (R30): RSP.UPDATE with another sink ends in the
same state but for the sink. -/
def Obligations.SinkDoesNotChangeEvents : Prop :=
  ∀ (s t : State) (rpt : Report) (k : Sink), exec (.rspUpdate rpt) s = .next t →
    exec (.rspUpdate rpt) { s with drv := { s.drv with sink := k } } =
      .next { t with drv := { t.drv with sink := k } }

/-! ## Opening, closing, the sink -/

/-- CTRL.OPEN on a fresh instance, the device present and the configure write ok (R170): the calls on the
ports, every element of R20 at its reset value, and the Driver returned; nothing else changes but the
two answers taken. -/
def Obligations.OpenBringsReset : Prop :=
  ∀ (s : State) (sink : Option SinkRef) (h : Handle),
    s.drv.phase = .none → s.drv.stuck = false →
    s.openAnswer = .found h → s.tookOpen.writeAnswer = .ok →
    exec (.ctrlOpen sink) s =
      .next { s with
        drv :=
          { pos := 0, rockerLast := 3, mute := 1, scale := 0, keepRunning := true, handleOpen := true,
            phase := .top, exitCause := .none, expectedOp := 0x75,
            sink := (match sink with | some k => .ref k | none => .default), closeCount := 0,
            handle := h, inFlight := false, stuck := false, rx := none, pending := [] }
        trace := s.trace ++
          [.xportOpen 0x04D8 0xF12D (.found h), .memWrite h ⟨0x43, 0x01, 0, 0, 0, 0, 0, 0⟩]
        ret := .driver
        inputs := s.tookOpen.tookWrite.inputs }

/-- CTRL.OPEN with no matching device (R171): DEVICE_NOT_FOUND to the caller, PHASE stays NONE, no
command is written. -/
def Obligations.OpenWithoutDeviceFails : Prop :=
  ∀ (s : State) (sink : Option SinkRef),
    s.drv.phase = .none → s.drv.stuck = false → s.openAnswer = .deviceNotFound →
    exec (.ctrlOpen sink) s =
      .next { s with
        trace := s.trace ++ [.xportOpen 0x04D8 0xF12D .deviceNotFound]
        ret := .error .deviceNotFound
        inputs := s.tookOpen.inputs }

/-- CTRL.OPEN whose configure write fails (R172): the handle is closed once before DEVICE_INIT_FAILURE
goes to the caller, and PHASE is NONE (decision D19 of the spec). -/
def Obligations.OpenInitFailureClosesHandle : Prop :=
  ∀ (s : State) (sink : Option SinkRef) (h : Handle),
    s.drv.phase = .none → s.drv.stuck = false →
    s.openAnswer = .found h → s.tookOpen.writeAnswer = .ioFailure →
    exec (.ctrlOpen sink) s =
      .next { s with
        drv := { s.drv with handleOpen := false, closeCount := 1, handle := h }
        trace := s.trace ++
          [.xportOpen 0x04D8 0xF12D (.found h), .memWrite h ⟨0x43, 0x01, 0, 0, 0, 0, 0, 0⟩, .xportClose h]
        ret := .error .deviceInitFailure
        inputs := s.tookOpen.tookWrite.inputs }

/-- CTRL.OPEN whose configure write never returns stays blocked for ever (R170's corner case): after any
number of steps there is still no instance, the handle is still open, nothing more has been sent, and
the caller has no answer. The state in which it waits is the model's (log 5, log 28). -/
def Obligations.OpenMayBlockForEver : Prop :=
  ∀ (s : State) (sink : Option SinkRef) (h : Handle),
    s.drv.phase = .none → s.drv.stuck = false →
    s.openAnswer = .found h → s.tookOpen.writeAnswer = .never →
    ∃ t, exec (.ctrlOpen sink) s = .next t ∧
      ∀ (n : Nat), ∃ u, Host.Core.run Sys2Proof.core n t = .next u ∧
        u.drv.phase = .none ∧ u.drv.handleOpen = true ∧ u.ret = s.ret ∧
        u.trace = s.trace ++
          [.xportOpen 0x04D8 0xF12D (.found h), .memWrite h ⟨0x43, 0x01, 0, 0, 0, 0, 0, 0⟩]

/-- CTRL.OPEN after the loop has stopped constructs a new instance: the stopped one is put aside as it
is, and the open runs on a slot without an instance, whose other fields are the model's (log 9, log 12). -/
def Obligations.OpenAfterStopIsANewInstance : Prop :=
  ∀ (s : State) (sink : Option SinkRef), s.drv.phase = .stopped →
    exec (.ctrlOpen sink) s =
      exec (.ctrlOpen sink) { s with drv := Driver.absent, retired := s.drv :: s.retired } ∧
    ∃ t, exec (.ctrlOpen sink) s = .next t ∧ t.retired = s.drv :: s.retired

/-- CTRL.OPEN while an instance runs, or blocks in its own open, has no meaning in the model (log 10). -/
def Obligations.SecondOpenRefused : Prop :=
  ∀ (s : State) (sink : Option SinkRef),
    (s.drv.phase ≠ .none → s.drv.phase ≠ .stopped →
      exec (.ctrlOpen sink) s = .refused .secondInstance) ∧
    (s.drv.phase = .none → s.drv.stuck = true →
      exec (.ctrlOpen sink) s = .refused .secondInstance)

/-- CTRL.CLOSE completes in every state with an instance whose handle is closed once it has stopped: it
clears KEEP_RUNNING and changes nothing else; where a stopped loop still held its handle, the guarded
teardown closes it, and no sound state meets that guard (R178). -/
def Obligations.CloseClearsKeepRunning : Prop :=
  ∀ s : State, s.drv.phase ≠ .none →
    ((s.drv.phase = .stopped → s.drv.handleOpen = false) →
      exec .ctrlClose s = .next { s with drv := { s.drv with keepRunning := false }, ret := .done }) ∧
    (s.drv.phase = .stopped → s.drv.handleOpen = true → s.drv.inFlight = false →
      exec .ctrlClose s =
        .next { s with
          drv := { s.drv with
            keepRunning := false, handleOpen := false, closeCount := s.drv.closeCount + 1 }
          trace := s.trace ++ [.xportClose s.drv.handle]
          ret := .done }) ∧
    (s.Sound → ¬ (s.drv.handleOpen = true ∧ s.drv.phase = .stopped))

/-- CTRL.SET_SINK completes in every PHASE other than NONE, STOPPED among them: SINK is the operand, and
nothing else changes (R179). -/
def Obligations.SetSinkBindsTheSink : Prop :=
  ∀ (s : State) (k : SinkRef), s.drv.phase ≠ .none →
    exec (.ctrlSetSink k) s = .next { s with drv := { s.drv with sink := .ref k }, ret := .done }

/-- Without an instance, every operation on one faults: a step that reads one by R34, and those that would
only write it or end a DECODE phase that is not there by the model's choice (log 12). -/
def Obligations.NoInstanceFaults : Prop :=
  ∀ (s : State) (i : Instr), s.drv.phase = .none → isCommand i = false → (∀ k, i ≠ .ctrlOpen k) →
    exec i s = .fault .noInstance

/-! ## The sequencer -/

/-- SEQ.POLL at TOP (R173): with KEEP_RUNNING = 1 the phase becomes WRITE and nothing else changes; with
KEEP_RUNNING = 0 it is SEQ.EXIT and answers the next state of its loop exit (R180), in which PHASE is
STOPPED. -/
def Obligations.TopTestsKeepRunning : Prop :=
  ∀ s : State, s.runsIn .top →
    (s.drv.keepRunning = true →
      exec .seqPoll s = .next { s with drv := { s.drv with phase := .write, inFlight := false } }) ∧
    (s.drv.keepRunning = false →
      exec .seqPoll s = exec .seqExit s ∧
      ∃ t, exec .seqPoll s = .next t ∧ exitedWith .stopRequested s t ∧ t.inputs = s.inputs)

/-- SEQ.POLL in WRITE (R174), as the call and its return: EXPECTED_OP becomes 0x75 and get-update is
handed over; then ok moves to READ, and IoFailure ends the loop with IO_FAILURE. -/
def Obligations.WritePhase : Prop :=
  ∀ s : State, s.runsIn .write →
    (s.drv.inFlight = false →
      exec .seqPoll s =
        .next { s with
          drv := { s.drv with expectedOp := 0x75, inFlight := true }
          trace := s.trace ++ [.memWrite s.drv.handle ⟨0x75, 0, 0, 0, 0, 0, 0, 0⟩] }) ∧
    (s.drv.inFlight = true → s.writeAnswer = .ok →
      exec .seqPoll s =
        .next { s with
          drv := { s.drv with phase := .read, inFlight := false }
          inputs := s.tookWrite.inputs }) ∧
    (s.drv.inFlight = true → s.writeAnswer = .ioFailure →
      ∃ t, exec .seqPoll s = .next t ∧ exitedWith .ioFailure s t ∧ t.inputs = s.tookWrite.inputs)

/-- SEQ.POLL in READ (R175), as the call and its return: 8 bytes are the response and the phase becomes
DECODE; IoFailure and Timeout end the loop with IO_FAILURE; a buffer of another length is an
unexpected failure, swallowed while a stop is pending. -/
def Obligations.ReadPhase : Prop :=
  ∀ s : State, s.runsIn .read →
    (s.drv.inFlight = false →
      exec .seqPoll s =
        .next { s with
          drv := { s.drv with inFlight := true }
          trace := s.trace ++ [.memRead s.drv.handle] }) ∧
    (∀ rpt : Report, s.drv.inFlight = true → s.readAnswer = .buffer rpt.bytes →
      exec .seqPoll s =
        .next { s with
          drv := { s.drv with phase := .decode, inFlight := false, rx := some rpt }
          inputs := s.tookRead.inputs }) ∧
    (s.drv.inFlight = true → (s.readAnswer = .ioFailure ∨ s.readAnswer = .timeout) →
      ∃ t, exec .seqPoll s = .next t ∧ exitedWith .ioFailure s t ∧ t.inputs = s.tookRead.inputs) ∧
    (∀ bytes : List Byte, s.drv.inFlight = true → s.readAnswer = .buffer bytes → bytes.length ≠ 8 →
      ∃ t, exec .seqPoll s = .next t ∧
        exitedWith (if s.drv.keepRunning then .unexpectedFailure else .stopRequested) s t ∧
        t.inputs = s.tookRead.inputs)

/-- SEQ.POLL in DECODE after the parse (R176, R142, R143, R144): the next event goes to the sink of this
moment, DEFAULT discards it, a failing hook ends the loop with the events not yet delivered dropped,
and with none left the phase becomes SLEEP. -/
def Obligations.DecodePhaseDelivers : Prop :=
  ∀ s : State, s.runsIn .decode → s.drv.rx = none →
    (s.drv.pending = [] →
      exec .seqPoll s = .next { s with drv := { s.drv with phase := .sleep, inFlight := false } }) ∧
    (∀ (e : Event) (es : List Event), s.drv.pending = e :: es → s.drv.sink = .default →
      exec .seqPoll s =
        .next { s with
          drv := { s.drv with pending := es }
          trace := s.trace ++ [.hook .default e] }) ∧
    (∀ (e : Event) (es : List Event) (k : SinkRef),
      s.drv.pending = e :: es → s.drv.sink = .ref k → s.hookAnswer = .ok →
      exec .seqPoll s =
        .next { s with
          drv := { s.drv with pending := es }
          trace := s.trace ++ [.hook (.ref k) e]
          inputs := s.tookHook.inputs }) ∧
    (∀ (e : Event) (es : List Event) (k : SinkRef),
      s.drv.pending = e :: es → s.drv.sink = .ref k → s.hookAnswer = .failure →
      ∃ t, exec .seqPoll s = .next t ∧
        exitedWith (if s.drv.keepRunning then .unexpectedFailure else .stopRequested) s t ∧
        t.inputs = s.tookHook.inputs)

/-- SEQ.POLL in SLEEP (R177): the phase becomes TOP; KEEP_RUNNING is not tested, and nothing else
changes. -/
def Obligations.SleepPhaseReturnsToTop : Prop :=
  ∀ s : State, s.runsIn .sleep →
    exec .seqPoll s = .next { s with drv := { s.drv with phase := .top, inFlight := false } }

/-- SEQ.EXIT completes at TOP with KEEP_RUNNING = 0: the loop exit with STOP_REQUESTED (R180). -/
def Obligations.ExitStopsTheLoop : Prop :=
  ∀ s : State, s.runsIn .top → s.drv.keepRunning = false →
    ∃ t, exec .seqExit s = .next t ∧ exitedWith .stopRequested s t ∧ t.inputs = s.inputs

/-- LoopExit(cause) (R203): the handle closed and counted if it was open, the cause and STOPPED
recorded; POS, ROCKER_LAST, MUTE, SCALE and everything else keep their values, and after it no
operation of the sequencer is due, so that no event is delivered; and a step that ends the loop is a
loop exit. -/
def Obligations.LoopExitEffect : Prop :=
  (∀ (cause : ExitCause) (s : State),
    exitedWith cause s (loopExit cause s) ∧ (loopExit cause s).due = none ∧
      (loopExit cause s).inputs = s.inputs) ∧
  (∀ s t : State, step s = .next t → s.drv.phase ≠ .stopped → t.drv.phase = .stopped →
    ∃ cause, exitedWith cause s t)

/-- Classifying a failure raised in the loop (R202): a transport error is IO_FAILURE whatever
KEEP_RUNNING is, any other is STOP_REQUESTED when KEEP_RUNNING = 0 and else UNEXPECTED_FAILURE. An
unexpected failure drawn at a loop that is not blocked ends it wherever it stands, a transfer in flight
included, such as a get-update that was handed over (R226). A step that ends the loop while a transfer is
in flight is the return of that transfer or such a failure, never a call of the embedder (R221, R252);
that the failure comes out of the call, and so ends the transfer, is the model's choice (log 7). -/
def Obligations.FailureClassification : Prop :=
  (∀ (s : State) (d : Transfer), exitedWith .ioFailure s (raiseInLoop (.transport d) s)) ∧
  (∀ (s : State) (f : LoopFailure), (∀ d, f ≠ .transport d) →
    (s.drv.keepRunning = false → exitedWith .stopRequested s (raiseInLoop f s)) ∧
    (s.drv.keepRunning = true → exitedWith .unexpectedFailure s (raiseInLoop f s))) ∧
  (∀ (s : State) (f : LoopFailure), (raiseInLoop f s).inputs = s.inputs) ∧
  (∀ s : State, s.nextTurn = .failure → s.drv.stuck = false → s.drv.phase ≠ .none →
    s.drv.phase ≠ .stopped →
    ∃ t, step s = .next t ∧
      exitedWith (if s.drv.keepRunning then .unexpectedFailure else .stopRequested) s t ∧
      t.inputs = s.tookTurn.inputs) ∧
  (∀ s t : State, s.Sound → step s = .next t → s.drv.inFlight = true → s.drv.phase ≠ .stopped →
    t.drv.phase = .stopped →
    s.nextTurn = .failure ∨
      (s.nextTurn = .loop ∧
        ((s.drv.phase = .write ∧ s.tookTurn.writeAnswer = .ioFailure) ∨
          (s.drv.phase = .read ∧ s.tookTurn.readAnswer ≠ .never))))

/-- An internal operation asked for where the sequencer does not take it is refused, and SEQ.POLL after
the loop has stopped too: STOPPED has no successor (the model's answer, log 11). -/
def Obligations.InternalStepsOnlyWhereDue : Prop :=
  ∀ (s : State) (rpt : Report), s.drv.phase ≠ .none →
    (s.due ≠ some (.rspUpdate rpt) → exec (.rspUpdate rpt) s = .refused .notDue) ∧
    (s.due ≠ some (.rspOpaque rpt) → exec (.rspOpaque rpt) s = .refused .notDue) ∧
    (s.due ≠ some (.rspMismatch rpt) → exec (.rspMismatch rpt) s = .refused .notDue) ∧
    (s.due ≠ some .seqExit → exec .seqExit s = .refused .notDue) ∧
    (s.drv.phase = .stopped → exec .seqPoll s = .refused .notDue)

/-! ## The machine -/

/-- A step runs the decoded operation: on the embedder's turn the operation its call decodes to, if its
context may invoke it, after the turn and the call are taken; on the sequencer's turn the operation
that is due, after the turn is taken. R13, R66 and R215 give the embedder the CTRL operations alone: that
its context may invoke the CMD operations too (log 32), and that such a call reaches the block as its
encoded outbound word (log 33), are the model's choices, and so are the turns and calls as inputs (logs 2
and 3), the pieces SEQ.POLL is cut into (log 4) and an embedder blocked in its open (log 28). -/
def Obligations.StepRunsTheDecodedOperation : Prop :=
  ∀ (s : State) (i : Instr),
    (s.nextTurn = .call → s.openBlocked = false →
      decode s.drv.expectedOp s.tookTurn.nextCall = .ok i → embedderMay i = true →
      step s = exec i s.tookTurn.tookCall) ∧
    (s.nextTurn = .loop → s.due = some i → step s = exec i s.tookTurn)

/-- Where the one whose turn it is has nothing to do, the machine idles: a loop that is not there, has
stopped or is blocked for ever, a failure drawn at such a loop, and an embedder blocked in its open
(log 28). -/
def Obligations.StepIdlesWithoutWork : Prop :=
  ∀ s : State,
    (s.nextTurn = .loop → s.due = none → step s = .next s.tookTurn) ∧
    (s.nextTurn = .failure → s.loopMoves = false → step s = .next s.tookTurn) ∧
    (s.nextTurn = .call → s.openBlocked = true → step s = .next s.tookTurn)

/-- The reset values of R240, in the state of a CTRL.OPEN without a sink argument. -/
def Obligations.ResetValues : Prop :=
  let d := State.reset.drv
  d.pos = 0 ∧ d.rockerLast = 3 ∧ d.mute = 1 ∧ d.scale = 0 ∧ d.keepRunning = true ∧
    d.handleOpen = true ∧ d.phase = .top ∧ d.exitCause = .none ∧ d.expectedOp = 0x75 ∧
    d.sink = .default ∧ d.closeCount = 0

/-- The state after reset is sound, its port calls are in order, and its POS fits every width. -/
def Obligations.ResetIsSound : Prop :=
  State.reset.Sound ∧ State.reset.Ordered ∧ ∀ w : Option Nat, withinWidth w State.reset.drv.pos

/-- Every step keeps the relations between the fields of an instance that the spec states, for the
current instance and for those before it. -/
def Obligations.StepKeepsSound : Prop :=
  ∀ s t : State, s.Sound → step s = .next t → t.Sound

/-- Every step keeps the port calls in order: one open and one configure, then get-update and its one
read in turn, events only after the read, all on the one handle, and at most one close, which ends
them. -/
def Obligations.StepKeepsPortOrder : Prop :=
  ∀ s t : State, s.Sound → s.Ordered → step s = .next t → t.Ordered

/-- Every step keeps POS within a finite P_POS_BITS. -/
def Obligations.StepKeepsPositionInWidth : Prop :=
  ∀ s t : State, withinWidth s.posBits s.drv.pos → step s = .next t →
    t.posBits = s.posBits ∧ withinWidth t.posBits t.drv.pos

/-- CLOSE_COUNT (R31): for every instance and at every point of every run it is at most 1, and once
PHASE is STOPPED it is 1 and the handle is closed. -/
def Obligations.HandleClosedExactlyOnce : Prop :=
  ∀ (s : State) (n : Nat) (t : State), s.Sound → Host.Core.run Sys2Proof.core n s = .next t →
    ∀ d ∈ t.drv :: t.retired, d.closeCount ≤ 1 ∧
      (d.phase = .stopped → d.closeCount = 1 ∧ d.handleOpen = false)

/-- What every step does to device state (R35): (a) POS changes only with exactly one rotate event that
carries the new POS, (b) ROCKER_LAST only with exactly one rocker event that carries the new value,
(c) MUTE and SCALE never, (d) CLOSE_COUNT stays at most 1, (e) and no call of the embedder writes
POS or ROCKER_LAST. -/
def Obligations.DeviceStateChangesWithItsEvent : Prop :=
  ∀ s t : State, s.Sound → sameInstance s t → step s = .next t →
    (t.drv.pos ≠ s.drv.pos →
      t.drv.pending.filter (fun e => decide (e.kind = .rotate)) = [.rotate t.drv.pos]) ∧
    (t.drv.rockerLast ≠ s.drv.rockerLast →
      t.drv.pending.filter (fun e => decide (e.kind = .rocker)) = [.rocker t.drv.rockerLast]) ∧
    t.drv.mute = s.drv.mute ∧ t.drv.scale = s.drv.scale ∧ t.drv.closeCount ≤ 1 ∧
    (s.nextTurn = .call → t.drv.pos = s.drv.pos ∧ t.drv.rockerLast = s.drv.rockerLast)

/-- KEEP_RUNNING (R25): only CTRL.CLOSE clears it, and once it is 0 nothing sets it for the instance. -/
def Obligations.OnlyCloseClearsKeepRunning : Prop :=
  (∀ (i : Instr) (s t : State), exec i s = .next t → sameInstance s t → s.drv.keepRunning = true →
    t.drv.keepRunning = false → i = .ctrlClose) ∧
  (∀ s t : State, step s = .next t → sameInstance s t → s.drv.keepRunning = false →
    t.drv.keepRunning = false)

/-- PHASE moves along TOP, WRITE, READ, DECODE, SLEEP, TOP, or to STOPPED, or stays; STOPPED has no
successor (R27, R181). -/
def Obligations.PhaseMovesAlongTheLoop : Prop :=
  ∀ s t : State, step s = .next t → sameInstance s t → phaseMove s.drv.phase t.drv.phase = true

/-- EXIT_CAUSE (R28): NONE while PHASE is not STOPPED, one of the three causes at STOPPED, and never
changed once it is set. -/
def Obligations.ExitCauseIsSetOnce : Prop :=
  ∀ s t : State, s.Sound → step s = .next t → sameInstance s t →
    (t.drv.phase ≠ .stopped → t.drv.exitCause = .none) ∧
    (t.drv.phase = .stopped → t.drv.exitCause ≠ .none) ∧
    (s.drv.exitCause ≠ .none → t.drv.exitCause = s.drv.exitCause)

/-- After the loop exit nothing happens on the ports and nothing of the instance changes but
KEEP_RUNNING and SINK, which the embedder may still write (R178, R179, R203). -/
def Obligations.StoppedInstanceIsFinal : Prop :=
  ∀ s t : State, s.Sound → s.drv.phase = .stopped → step s = .next t → sameInstance s t →
    t.trace = s.trace ∧
    t.drv = { s.drv with keepRunning := t.drv.keepRunning, sink := t.drv.sink }

/-- An instance that was put aside never changes, and only a stopped one is put aside. The list is the
model's (log 9), and so is that nothing acts on an instance in it: the spec does not say so of an embedder
that still calls a driver it has replaced (log 25). -/
def Obligations.RetiredInstancesNeverChange : Prop :=
  ∀ s t : State, step s = .next t →
    t.retired = s.retired ∨ (s.drv.phase = .stopped ∧ t.retired = s.drv :: s.retired)

/-- What is handed to the transport (R41): a step only adds to the record of port calls, and each report
it writes is the configure command of CTRL.OPEN or get-update. -/
def Obligations.TransmitsConfigureAndGetUpdateOnly : Prop :=
  ∀ s t : State, step s = .next t →
    ∃ new, t.trace = s.trace ++ new ∧
      ∀ h rpt, .memWrite h rpt ∈ new →
        rpt = ⟨0x43, 0x01, 0, 0, 0, 0, 0, 0⟩ ∨ rpt = ⟨0x75, 0, 0, 0, 0, 0, 0, 0⟩

/-- A call that never returns hangs the loop for ever (R251, R254): in WRITE and READ a transport call
that does not return blocks the loop, and so does a hook in DECODE; from a blocked loop no number of steps
moves the phase, adds a port call or stops it, whatever the embedder calls. The mark of a blocked loop is
the model's (log 5). -/
def Obligations.StuckLoopHangsForEver : Prop :=
  (∀ s : State, s.drv.stuck = false →
    (s.drv.phase = .write → s.drv.inFlight = true → s.writeAnswer = .never →
      exec .seqPoll s =
        .next { s with drv := { s.drv with stuck := true }, inputs := s.tookWrite.inputs }) ∧
    (s.drv.phase = .read → s.drv.inFlight = true → s.readAnswer = .never →
      exec .seqPoll s =
        .next { s with drv := { s.drv with stuck := true }, inputs := s.tookRead.inputs }) ∧
    (∀ k : SinkRef, s.drv.phase = .decode → s.drv.rx = none → s.drv.pending ≠ [] →
      s.drv.sink = .ref k → s.hookAnswer = .never →
      exec .seqPoll s =
        .next { s with drv := { s.drv with stuck := true }, inputs := s.tookHook.inputs })) ∧
  (∀ (s : State) (n : Nat) (t : State), s.drv.stuck = true → s.drv.phase ≠ .none →
    s.drv.phase ≠ .stopped → Host.Core.run Sys2Proof.core n s = .next t →
    t.drv.phase = s.drv.phase ∧ t.drv.stuck = true ∧ t.trace = s.trace)

/-- The embedder's calls read nothing of device state (R33): whatever POS, ROCKER_LAST, MUTE and SCALE
hold, an operation the embedder may invoke gives it, at once, the same answer, the same port calls and the
same STATUS, and so does a whole step on its turn, a refused call included. What reaches it later through
its hooks, POS in a rotate event among it, is another matter. That the CMD operations are among those the embedder
may invoke is the model's choice (log 32). -/
def Obligations.EmbedderReadsNoDeviceState : Prop :=
  (∀ (i : Instr) (s : State) (pos : Int) (last : BitVec 2) (mute : BitVec 1) (scale : BitVec 7),
    embedderMay i = true →
    sameToEmbedder (exec i s) (exec i (s.withDevice pos last mute scale))) ∧
  (∀ (s : State) (pos : Int) (last : BitVec 2) (mute : BitVec 1) (scale : BitVec 7),
    s.nextTurn = .call → sameToEmbedder (step s) (step (s.withDevice pos last mute scale)))

/-- One full iteration of the loop, which a listing writes as one SEQ.POLL (R78), matching or mismatched
(R131, R137): from TOP, while the loop has the turns, its calls return and the response is the given one,
8 steps and one for each event lead back to TOP, with get-update sent once and the response read once. A
matching response has added its delta to POS, stored the rocker and had every event delivered once to the
sink, in some order; a mismatched one has changed nothing. An embedder's call in between is not in it. -/
def Obligations.IterationCompletes : Prop :=
  ∀ (s : State) (rpt : Report) (n : Nat),
    s.Sound → s.runsIn .top → s.drv.keepRunning = true →
    (rpt.b0 = 0x75 → withinWidth s.posBits (s.drv.pos + wireDelta rpt)) →
    n = (responseEvents s.drv.pos s.drv.rockerLast rpt).length →
    (∀ (k : Nat) (u : State), k < 8 + n → Host.Core.run Sys2Proof.core k s = .next u → u.answers rpt) →
    ∃ (t : State) (evs : List Event), Host.Core.run Sys2Proof.core (8 + n) s = .next t ∧
      evs.Perm (responseEvents s.drv.pos s.drv.rockerLast rpt) ∧
      t.drv = (if rpt.b0 = 0x75 then
        { s.drv with
          pos := s.drv.pos + wireDelta rpt, rockerLast := BitVec.ofNat 2 (wireRocker rpt) }
        else s.drv) ∧
      t.trace = s.trace ++
        [.memWrite s.drv.handle ⟨0x75, 0, 0, 0, 0, 0, 0, 0⟩, .memRead s.drv.handle]
        ++ evs.map (fun e => .hook s.drv.sink e) ∧
      t.retired = s.retired ∧ t.ret = s.ret ∧ t.refusalMark = s.refusalMark ∧ t.posBits = s.posBits

/-- STATUS (R36): RUNNING with EXIT_CAUSE from TOP to SLEEP, where a sound state has NONE (R28), and STOPPED
with EXIT_CAUSE at STOPPED; it shows nothing of device state. That it is nothing at NONE is the model's
(log 12). -/
def Obligations.StatusShowsRunStateAndCause : Prop :=
  ∀ s : State,
    (s.drv.phase = .none → s.status = none) ∧
    (s.drv.phase ≠ .none → s.drv.phase ≠ .stopped → s.status = some (.running, s.drv.exitCause)) ∧
    (s.drv.phase = .stopped → s.status = some (.stopped, s.drv.exitCause)) ∧
    (∀ cause, s.Sound → s.status = some (.running, cause) → cause = .none) ∧
    (∀ (pos : Int) (last : BitVec 2) (mute : BitVec 1) (scale : BitVec 7),
      (s.withDevice pos last mute scale).status = s.status)
end

