-- ==== Sys2Proof/Laws/State.lean ====
section
/-! SUPPORT. One lemma per field per update of the state, each true by unfolding, so that no later
proof unfolds a record update. -/

namespace Sys2Proof.Machine

/-! ## setDrv -/

@[simp] theorem State.setDrv_drv (s : State) (d : Driver) : (s.setDrv d).drv = d := rfl
@[simp] theorem State.setDrv_retired (s : State) (d : Driver) :
    (s.setDrv d).retired = s.retired := rfl
@[simp] theorem State.setDrv_trace (s : State) (d : Driver) : (s.setDrv d).trace = s.trace := rfl
@[simp] theorem State.setDrv_ret (s : State) (d : Driver) : (s.setDrv d).ret = s.ret := rfl
@[simp] theorem State.setDrv_refusalMark (s : State) (d : Driver) :
    (s.setDrv d).refusalMark = s.refusalMark := rfl
@[simp] theorem State.setDrv_posBits (s : State) (d : Driver) :
    (s.setDrv d).posBits = s.posBits := rfl
@[simp] theorem State.setDrv_inputs (s : State) (d : Driver) : (s.setDrv d).inputs = s.inputs := rfl

/-! ## emit -/

@[simp] theorem State.emit_drv (s : State) (c : PortCall) : (s.emit c).drv = s.drv := rfl
@[simp] theorem State.emit_retired (s : State) (c : PortCall) :
    (s.emit c).retired = s.retired := rfl
@[simp] theorem State.emit_trace (s : State) (c : PortCall) :
    (s.emit c).trace = s.trace ++ [c] := rfl
@[simp] theorem State.emit_ret (s : State) (c : PortCall) : (s.emit c).ret = s.ret := rfl
@[simp] theorem State.emit_refusalMark (s : State) (c : PortCall) :
    (s.emit c).refusalMark = s.refusalMark := rfl
@[simp] theorem State.emit_posBits (s : State) (c : PortCall) :
    (s.emit c).posBits = s.posBits := rfl
@[simp] theorem State.emit_inputs (s : State) (c : PortCall) : (s.emit c).inputs = s.inputs := rfl

/-! ## landed -/

@[simp] theorem State.landed_drv (s : State) : (s.landed).drv = { s.drv with inFlight := false } := rfl
@[simp] theorem State.landed_retired (s : State) : (s.landed).retired = s.retired := rfl
@[simp] theorem State.landed_trace (s : State) : (s.landed).trace = s.trace := rfl
@[simp] theorem State.landed_ret (s : State) : (s.landed).ret = s.ret := rfl
@[simp] theorem State.landed_refusalMark (s : State) : (s.landed).refusalMark = s.refusalMark := rfl
@[simp] theorem State.landed_posBits (s : State) : (s.landed).posBits = s.posBits := rfl
@[simp] theorem State.landed_inputs (s : State) : (s.landed).inputs = s.inputs := rfl

/-! ## setRet -/

@[simp] theorem State.setRet_drv (s : State) (r : Ret) : (s.setRet r).drv = s.drv := rfl
@[simp] theorem State.setRet_retired (s : State) (r : Ret) : (s.setRet r).retired = s.retired := rfl
@[simp] theorem State.setRet_trace (s : State) (r : Ret) : (s.setRet r).trace = s.trace := rfl
@[simp] theorem State.setRet_ret (s : State) (r : Ret) : (s.setRet r).ret = r := rfl
@[simp] theorem State.setRet_refusalMark (s : State) (r : Ret) :
    (s.setRet r).refusalMark = s.refusalMark := rfl
@[simp] theorem State.setRet_posBits (s : State) (r : Ret) : (s.setRet r).posBits = s.posBits := rfl
@[simp] theorem State.setRet_inputs (s : State) (r : Ret) : (s.setRet r).inputs = s.inputs := rfl

/-! ## mark -/

@[simp] theorem State.mark_drv (s : State) : (s.mark).drv = s.drv := rfl
@[simp] theorem State.mark_retired (s : State) : (s.mark).retired = s.retired := rfl
@[simp] theorem State.mark_trace (s : State) : (s.mark).trace = s.trace := rfl
@[simp] theorem State.mark_ret (s : State) : (s.mark).ret = s.ret := rfl
@[simp] theorem State.mark_refusalMark (s : State) : (s.mark).refusalMark = true := rfl
@[simp] theorem State.mark_posBits (s : State) : (s.mark).posBits = s.posBits := rfl
@[simp] theorem State.mark_inputs (s : State) : (s.mark).inputs = s.inputs := rfl

/-! ## setAside -/

@[simp] theorem State.setAside_drv (s : State) (d : Driver) : (s.setAside d).drv = d := rfl
@[simp] theorem State.setAside_retired (s : State) (d : Driver) :
    (s.setAside d).retired = s.drv :: s.retired := rfl
@[simp] theorem State.setAside_trace (s : State) (d : Driver) :
    (s.setAside d).trace = s.trace := rfl
@[simp] theorem State.setAside_ret (s : State) (d : Driver) : (s.setAside d).ret = s.ret := rfl
@[simp] theorem State.setAside_refusalMark (s : State) (d : Driver) :
    (s.setAside d).refusalMark = s.refusalMark := rfl
@[simp] theorem State.setAside_posBits (s : State) (d : Driver) :
    (s.setAside d).posBits = s.posBits := rfl
@[simp] theorem State.setAside_inputs (s : State) (d : Driver) :
    (s.setAside d).inputs = s.inputs := rfl

/-! ## tookTurn -/

@[simp] theorem State.tookTurn_drv (s : State) : s.tookTurn.drv = s.drv := rfl
@[simp] theorem State.tookTurn_retired (s : State) : s.tookTurn.retired = s.retired := rfl
@[simp] theorem State.tookTurn_trace (s : State) : s.tookTurn.trace = s.trace := rfl
@[simp] theorem State.tookTurn_ret (s : State) : s.tookTurn.ret = s.ret := rfl
@[simp] theorem State.tookTurn_refusalMark (s : State) :
    s.tookTurn.refusalMark = s.refusalMark := rfl
@[simp] theorem State.tookTurn_posBits (s : State) : s.tookTurn.posBits = s.posBits := rfl
@[simp] theorem State.tookTurn_inputs (s : State) :
    s.tookTurn.inputs = { s.inputs with turns := s.inputs.turns.tail, draws := s.inputs.draws + 1 } := rfl

/-! ## tookCall -/

@[simp] theorem State.tookCall_drv (s : State) : s.tookCall.drv = s.drv := rfl
@[simp] theorem State.tookCall_retired (s : State) : s.tookCall.retired = s.retired := rfl
@[simp] theorem State.tookCall_trace (s : State) : s.tookCall.trace = s.trace := rfl
@[simp] theorem State.tookCall_ret (s : State) : s.tookCall.ret = s.ret := rfl
@[simp] theorem State.tookCall_refusalMark (s : State) :
    s.tookCall.refusalMark = s.refusalMark := rfl
@[simp] theorem State.tookCall_posBits (s : State) : s.tookCall.posBits = s.posBits := rfl
@[simp] theorem State.tookCall_inputs (s : State) :
    s.tookCall.inputs = { s.inputs with calls := s.inputs.calls.tail, draws := s.inputs.draws + 1 } := rfl

/-! ## tookOpen -/

@[simp] theorem State.tookOpen_drv (s : State) : s.tookOpen.drv = s.drv := rfl
@[simp] theorem State.tookOpen_retired (s : State) : s.tookOpen.retired = s.retired := rfl
@[simp] theorem State.tookOpen_trace (s : State) : s.tookOpen.trace = s.trace := rfl
@[simp] theorem State.tookOpen_ret (s : State) : s.tookOpen.ret = s.ret := rfl
@[simp] theorem State.tookOpen_refusalMark (s : State) :
    s.tookOpen.refusalMark = s.refusalMark := rfl
@[simp] theorem State.tookOpen_posBits (s : State) : s.tookOpen.posBits = s.posBits := rfl
@[simp] theorem State.tookOpen_inputs (s : State) :
    s.tookOpen.inputs = { s.inputs with opens := s.inputs.opens.tail, draws := s.inputs.draws + 1 } := rfl

/-! ## tookWrite -/

@[simp] theorem State.tookWrite_drv (s : State) : s.tookWrite.drv = s.drv := rfl
@[simp] theorem State.tookWrite_retired (s : State) : s.tookWrite.retired = s.retired := rfl
@[simp] theorem State.tookWrite_trace (s : State) : s.tookWrite.trace = s.trace := rfl
@[simp] theorem State.tookWrite_ret (s : State) : s.tookWrite.ret = s.ret := rfl
@[simp] theorem State.tookWrite_refusalMark (s : State) :
    s.tookWrite.refusalMark = s.refusalMark := rfl
@[simp] theorem State.tookWrite_posBits (s : State) : s.tookWrite.posBits = s.posBits := rfl
@[simp] theorem State.tookWrite_inputs (s : State) :
    s.tookWrite.inputs = { s.inputs with writes := s.inputs.writes.tail, draws := s.inputs.draws + 1 } := rfl

/-! ## tookRead -/

@[simp] theorem State.tookRead_drv (s : State) : s.tookRead.drv = s.drv := rfl
@[simp] theorem State.tookRead_retired (s : State) : s.tookRead.retired = s.retired := rfl
@[simp] theorem State.tookRead_trace (s : State) : s.tookRead.trace = s.trace := rfl
@[simp] theorem State.tookRead_ret (s : State) : s.tookRead.ret = s.ret := rfl
@[simp] theorem State.tookRead_refusalMark (s : State) :
    s.tookRead.refusalMark = s.refusalMark := rfl
@[simp] theorem State.tookRead_posBits (s : State) : s.tookRead.posBits = s.posBits := rfl
@[simp] theorem State.tookRead_inputs (s : State) :
    s.tookRead.inputs = { s.inputs with reads := s.inputs.reads.tail, draws := s.inputs.draws + 1 } := rfl

/-! ## tookHook -/

@[simp] theorem State.tookHook_drv (s : State) : s.tookHook.drv = s.drv := rfl
@[simp] theorem State.tookHook_retired (s : State) : s.tookHook.retired = s.retired := rfl
@[simp] theorem State.tookHook_trace (s : State) : s.tookHook.trace = s.trace := rfl
@[simp] theorem State.tookHook_ret (s : State) : s.tookHook.ret = s.ret := rfl
@[simp] theorem State.tookHook_refusalMark (s : State) :
    s.tookHook.refusalMark = s.refusalMark := rfl
@[simp] theorem State.tookHook_posBits (s : State) : s.tookHook.posBits = s.posBits := rfl
@[simp] theorem State.tookHook_inputs (s : State) :
    s.tookHook.inputs = { s.inputs with hooks := s.inputs.hooks.tail, draws := s.inputs.draws + 1 } := rfl

/-! ## tookOrder -/

@[simp] theorem State.tookOrder_drv (s : State) : s.tookOrder.drv = s.drv := rfl
@[simp] theorem State.tookOrder_retired (s : State) : s.tookOrder.retired = s.retired := rfl
@[simp] theorem State.tookOrder_trace (s : State) : s.tookOrder.trace = s.trace := rfl
@[simp] theorem State.tookOrder_ret (s : State) : s.tookOrder.ret = s.ret := rfl
@[simp] theorem State.tookOrder_refusalMark (s : State) :
    s.tookOrder.refusalMark = s.refusalMark := rfl
@[simp] theorem State.tookOrder_posBits (s : State) : s.tookOrder.posBits = s.posBits := rfl
@[simp] theorem State.tookOrder_inputs (s : State) :
    s.tookOrder.inputs = { s.inputs with orders := s.inputs.orders.tail, draws := s.inputs.draws + 1 } := rfl

/-! ## closeHandle -/

@[simp] theorem State.closeHandle_drv (s : State) :
    s.closeHandle.drv = { s.drv with handleOpen := false, closeCount := s.drv.closeCount + 1 } := rfl
@[simp] theorem State.closeHandle_retired (s : State) : s.closeHandle.retired = s.retired := rfl
@[simp] theorem State.closeHandle_trace (s : State) :
    s.closeHandle.trace = s.trace ++ [.xportClose s.drv.handle] := rfl
@[simp] theorem State.closeHandle_ret (s : State) : s.closeHandle.ret = s.ret := rfl
@[simp] theorem State.closeHandle_refusalMark (s : State) :
    s.closeHandle.refusalMark = s.refusalMark := rfl
@[simp] theorem State.closeHandle_posBits (s : State) : s.closeHandle.posBits = s.posBits := rfl
@[simp] theorem State.closeHandle_inputs (s : State) : s.closeHandle.inputs = s.inputs := rfl

/-! ## Inputs through the updates: an answer depends on the inputs alone -/

@[simp] theorem State.setDrv_nextTurn (s : State) (d : Driver) :
    (s.setDrv d).nextTurn = s.nextTurn := rfl
@[simp] theorem State.emit_nextTurn (s : State) (c : PortCall) :
    (s.emit c).nextTurn = s.nextTurn := rfl
@[simp] theorem State.setRet_nextTurn (s : State) (r : Ret) :
    (s.setRet r).nextTurn = s.nextTurn := rfl
@[simp] theorem State.mark_nextTurn (s : State) : (s.mark).nextTurn = s.nextTurn := rfl
@[simp] theorem State.setAside_nextTurn (s : State) (d : Driver) :
    (s.setAside d).nextTurn = s.nextTurn := rfl
@[simp] theorem State.setDrv_nextCall (s : State) (d : Driver) :
    (s.setDrv d).nextCall = s.nextCall := rfl
@[simp] theorem State.emit_nextCall (s : State) (c : PortCall) :
    (s.emit c).nextCall = s.nextCall := rfl
@[simp] theorem State.setRet_nextCall (s : State) (r : Ret) :
    (s.setRet r).nextCall = s.nextCall := rfl
@[simp] theorem State.mark_nextCall (s : State) : (s.mark).nextCall = s.nextCall := rfl
@[simp] theorem State.setAside_nextCall (s : State) (d : Driver) :
    (s.setAside d).nextCall = s.nextCall := rfl
@[simp] theorem State.setDrv_openAnswer (s : State) (d : Driver) :
    (s.setDrv d).openAnswer = s.openAnswer := rfl
@[simp] theorem State.emit_openAnswer (s : State) (c : PortCall) :
    (s.emit c).openAnswer = s.openAnswer := rfl
@[simp] theorem State.setRet_openAnswer (s : State) (r : Ret) :
    (s.setRet r).openAnswer = s.openAnswer := rfl
@[simp] theorem State.mark_openAnswer (s : State) : (s.mark).openAnswer = s.openAnswer := rfl
@[simp] theorem State.setAside_openAnswer (s : State) (d : Driver) :
    (s.setAside d).openAnswer = s.openAnswer := rfl
@[simp] theorem State.setDrv_writeAnswer (s : State) (d : Driver) :
    (s.setDrv d).writeAnswer = s.writeAnswer := rfl
@[simp] theorem State.emit_writeAnswer (s : State) (c : PortCall) :
    (s.emit c).writeAnswer = s.writeAnswer := rfl
@[simp] theorem State.setRet_writeAnswer (s : State) (r : Ret) :
    (s.setRet r).writeAnswer = s.writeAnswer := rfl
@[simp] theorem State.mark_writeAnswer (s : State) : (s.mark).writeAnswer = s.writeAnswer := rfl
@[simp] theorem State.setAside_writeAnswer (s : State) (d : Driver) :
    (s.setAside d).writeAnswer = s.writeAnswer := rfl
@[simp] theorem State.setDrv_readAnswer (s : State) (d : Driver) :
    (s.setDrv d).readAnswer = s.readAnswer := rfl
@[simp] theorem State.emit_readAnswer (s : State) (c : PortCall) :
    (s.emit c).readAnswer = s.readAnswer := rfl
@[simp] theorem State.setRet_readAnswer (s : State) (r : Ret) :
    (s.setRet r).readAnswer = s.readAnswer := rfl
@[simp] theorem State.mark_readAnswer (s : State) : (s.mark).readAnswer = s.readAnswer := rfl
@[simp] theorem State.setAside_readAnswer (s : State) (d : Driver) :
    (s.setAside d).readAnswer = s.readAnswer := rfl
@[simp] theorem State.setDrv_hookAnswer (s : State) (d : Driver) :
    (s.setDrv d).hookAnswer = s.hookAnswer := rfl
@[simp] theorem State.emit_hookAnswer (s : State) (c : PortCall) :
    (s.emit c).hookAnswer = s.hookAnswer := rfl
@[simp] theorem State.setRet_hookAnswer (s : State) (r : Ret) :
    (s.setRet r).hookAnswer = s.hookAnswer := rfl
@[simp] theorem State.mark_hookAnswer (s : State) : (s.mark).hookAnswer = s.hookAnswer := rfl
@[simp] theorem State.setAside_hookAnswer (s : State) (d : Driver) :
    (s.setAside d).hookAnswer = s.hookAnswer := rfl
@[simp] theorem State.setDrv_eventOrder (s : State) (d : Driver) :
    (s.setDrv d).eventOrder = s.eventOrder := rfl
@[simp] theorem State.emit_eventOrder (s : State) (c : PortCall) :
    (s.emit c).eventOrder = s.eventOrder := rfl
@[simp] theorem State.setRet_eventOrder (s : State) (r : Ret) :
    (s.setRet r).eventOrder = s.eventOrder := rfl
@[simp] theorem State.mark_eventOrder (s : State) : (s.mark).eventOrder = s.eventOrder := rfl
@[simp] theorem State.setAside_eventOrder (s : State) (d : Driver) :
    (s.setAside d).eventOrder = s.eventOrder := rfl

/-! ## A scripted input is what its script says -/

@[simp] theorem scripted_cons {α : Type} (a : α) (as : List α) (free : Nat → α) (n : Nat) :
    scripted (a :: as) free n = a := rfl
@[simp] theorem scripted_nil {α : Type} (free : Nat → α) (n : Nat) : scripted [] free n = free n := rfl

/-! ## The driver's updates -/

@[simp] theorem Driver.stop_pos (d : Driver) (c : ExitCause) : (d.stop c).pos = d.pos := rfl
@[simp] theorem Driver.stop_rockerLast (d : Driver) (c : ExitCause) :
    (d.stop c).rockerLast = d.rockerLast := rfl
@[simp] theorem Driver.stop_mute (d : Driver) (c : ExitCause) : (d.stop c).mute = d.mute := rfl
@[simp] theorem Driver.stop_scale (d : Driver) (c : ExitCause) : (d.stop c).scale = d.scale := rfl
@[simp] theorem Driver.stop_keepRunning (d : Driver) (c : ExitCause) :
    (d.stop c).keepRunning = d.keepRunning := rfl
@[simp] theorem Driver.stop_handleOpen (d : Driver) (c : ExitCause) :
    (d.stop c).handleOpen = d.handleOpen := rfl
@[simp] theorem Driver.stop_phase (d : Driver) (c : ExitCause) : (d.stop c).phase = .stopped := rfl
@[simp] theorem Driver.stop_exitCause (d : Driver) (c : ExitCause) : (d.stop c).exitCause = c := rfl
@[simp] theorem Driver.stop_expectedOp (d : Driver) (c : ExitCause) :
    (d.stop c).expectedOp = d.expectedOp := rfl
@[simp] theorem Driver.stop_sink (d : Driver) (c : ExitCause) : (d.stop c).sink = d.sink := rfl
@[simp] theorem Driver.stop_closeCount (d : Driver) (c : ExitCause) :
    (d.stop c).closeCount = d.closeCount := rfl
@[simp] theorem Driver.stop_handle (d : Driver) (c : ExitCause) :
    (d.stop c).handle = d.handle := rfl
@[simp] theorem Driver.stop_inFlight (d : Driver) (c : ExitCause) :
    (d.stop c).inFlight = false := rfl
@[simp] theorem Driver.stop_stuck (d : Driver) (c : ExitCause) : (d.stop c).stuck = d.stuck := rfl
@[simp] theorem Driver.stop_rx (d : Driver) (c : ExitCause) : (d.stop c).rx = none := rfl
@[simp] theorem Driver.stop_pending (d : Driver) (c : ExitCause) : (d.stop c).pending = [] := rfl

@[simp] theorem Driver.parsed_pos (d : Driver) (evs : List Event) :
    (d.parsed evs).pos = d.pos := rfl
@[simp] theorem Driver.parsed_rockerLast (d : Driver) (evs : List Event) :
    (d.parsed evs).rockerLast = d.rockerLast := rfl
@[simp] theorem Driver.parsed_mute (d : Driver) (evs : List Event) :
    (d.parsed evs).mute = d.mute := rfl
@[simp] theorem Driver.parsed_scale (d : Driver) (evs : List Event) :
    (d.parsed evs).scale = d.scale := rfl
@[simp] theorem Driver.parsed_keepRunning (d : Driver) (evs : List Event) :
    (d.parsed evs).keepRunning = d.keepRunning := rfl
@[simp] theorem Driver.parsed_handleOpen (d : Driver) (evs : List Event) :
    (d.parsed evs).handleOpen = d.handleOpen := rfl
@[simp] theorem Driver.parsed_phase (d : Driver) (evs : List Event) :
    (d.parsed evs).phase = d.phase := rfl
@[simp] theorem Driver.parsed_exitCause (d : Driver) (evs : List Event) :
    (d.parsed evs).exitCause = d.exitCause := rfl
@[simp] theorem Driver.parsed_expectedOp (d : Driver) (evs : List Event) :
    (d.parsed evs).expectedOp = d.expectedOp := rfl
@[simp] theorem Driver.parsed_sink (d : Driver) (evs : List Event) :
    (d.parsed evs).sink = d.sink := rfl
@[simp] theorem Driver.parsed_closeCount (d : Driver) (evs : List Event) :
    (d.parsed evs).closeCount = d.closeCount := rfl
@[simp] theorem Driver.parsed_handle (d : Driver) (evs : List Event) :
    (d.parsed evs).handle = d.handle := rfl
@[simp] theorem Driver.parsed_inFlight (d : Driver) (evs : List Event) :
    (d.parsed evs).inFlight = d.inFlight := rfl
@[simp] theorem Driver.parsed_stuck (d : Driver) (evs : List Event) :
    (d.parsed evs).stuck = d.stuck := rfl
@[simp] theorem Driver.parsed_rx (d : Driver) (evs : List Event) : (d.parsed evs).rx = none := rfl
@[simp] theorem Driver.parsed_pending (d : Driver) (evs : List Event) :
    (d.parsed evs).pending = evs := rfl

@[simp] theorem Driver.standAt_pos (d : Driver) (p : Phase) : (d.standAt p).pos = d.pos := rfl
@[simp] theorem Driver.standAt_rockerLast (d : Driver) (p : Phase) :
    (d.standAt p).rockerLast = d.rockerLast := rfl
@[simp] theorem Driver.standAt_mute (d : Driver) (p : Phase) : (d.standAt p).mute = d.mute := rfl
@[simp] theorem Driver.standAt_scale (d : Driver) (p : Phase) : (d.standAt p).scale = d.scale := rfl
@[simp] theorem Driver.standAt_keepRunning (d : Driver) (p : Phase) :
    (d.standAt p).keepRunning = d.keepRunning := rfl
@[simp] theorem Driver.standAt_handleOpen (d : Driver) (p : Phase) :
    (d.standAt p).handleOpen = d.handleOpen := rfl
@[simp] theorem Driver.standAt_phase (d : Driver) (p : Phase) : (d.standAt p).phase = p := rfl
@[simp] theorem Driver.standAt_exitCause (d : Driver) (p : Phase) :
    (d.standAt p).exitCause = d.exitCause := rfl
@[simp] theorem Driver.standAt_expectedOp (d : Driver) (p : Phase) :
    (d.standAt p).expectedOp = d.expectedOp := rfl
@[simp] theorem Driver.standAt_sink (d : Driver) (p : Phase) : (d.standAt p).sink = d.sink := rfl
@[simp] theorem Driver.standAt_closeCount (d : Driver) (p : Phase) :
    (d.standAt p).closeCount = d.closeCount := rfl
@[simp] theorem Driver.standAt_handle (d : Driver) (p : Phase) :
    (d.standAt p).handle = d.handle := rfl
@[simp] theorem Driver.standAt_inFlight (d : Driver) (p : Phase) :
    (d.standAt p).inFlight = false := rfl
@[simp] theorem Driver.standAt_stuck (d : Driver) (p : Phase) : (d.standAt p).stuck = false := rfl
@[simp] theorem Driver.standAt_rx (d : Driver) (p : Phase) : (d.standAt p).rx = none := rfl
@[simp] theorem Driver.standAt_pending (d : Driver) (p : Phase) : (d.standAt p).pending = [] := rfl

@[simp] theorem Driver.opened_pos (h : Handle) (k : Sink) : (Driver.opened h k).pos = 0 := rfl
@[simp] theorem Driver.opened_rockerLast (h : Handle) (k : Sink) :
    (Driver.opened h k).rockerLast = Config.rockerSentinel := rfl
@[simp] theorem Driver.opened_mute (h : Handle) (k : Sink) :
    (Driver.opened h k).mute = Config.initMute := rfl
@[simp] theorem Driver.opened_scale (h : Handle) (k : Sink) :
    (Driver.opened h k).scale = Config.initScale := rfl
@[simp] theorem Driver.opened_keepRunning (h : Handle) (k : Sink) :
    (Driver.opened h k).keepRunning = true := rfl
@[simp] theorem Driver.opened_handleOpen (h : Handle) (k : Sink) :
    (Driver.opened h k).handleOpen = true := rfl
@[simp] theorem Driver.opened_phase (h : Handle) (k : Sink) :
    (Driver.opened h k).phase = .top := rfl
@[simp] theorem Driver.opened_exitCause (h : Handle) (k : Sink) :
    (Driver.opened h k).exitCause = .none := rfl
@[simp] theorem Driver.opened_expectedOp (h : Handle) (k : Sink) :
    (Driver.opened h k).expectedOp = Config.opGetUpdate := rfl
@[simp] theorem Driver.opened_sink (h : Handle) (k : Sink) : (Driver.opened h k).sink = k := rfl
@[simp] theorem Driver.opened_closeCount (h : Handle) (k : Sink) :
    (Driver.opened h k).closeCount = 0 := rfl
@[simp] theorem Driver.opened_handle (h : Handle) (k : Sink) : (Driver.opened h k).handle = h := rfl
@[simp] theorem Driver.opened_inFlight (h : Handle) (k : Sink) :
    (Driver.opened h k).inFlight = false := rfl
@[simp] theorem Driver.opened_stuck (h : Handle) (k : Sink) :
    (Driver.opened h k).stuck = false := rfl
@[simp] theorem Driver.opened_rx (h : Handle) (k : Sink) : (Driver.opened h k).rx = none := rfl
@[simp] theorem Driver.opened_pending (h : Handle) (k : Sink) :
    (Driver.opened h k).pending = [] := rfl

@[simp] theorem Driver.absent_pos : Driver.absent.pos = 0 := rfl
@[simp] theorem Driver.absent_rockerLast : Driver.absent.rockerLast = 0 := rfl
@[simp] theorem Driver.absent_mute : Driver.absent.mute = 0 := rfl
@[simp] theorem Driver.absent_scale : Driver.absent.scale = 0 := rfl
@[simp] theorem Driver.absent_keepRunning : Driver.absent.keepRunning = false := rfl
@[simp] theorem Driver.absent_handleOpen : Driver.absent.handleOpen = false := rfl
@[simp] theorem Driver.absent_phase : Driver.absent.phase = .none := rfl
@[simp] theorem Driver.absent_exitCause : Driver.absent.exitCause = .none := rfl
@[simp] theorem Driver.absent_expectedOp : Driver.absent.expectedOp = 0 := rfl
@[simp] theorem Driver.absent_sink : Driver.absent.sink = .default := rfl
@[simp] theorem Driver.absent_closeCount : Driver.absent.closeCount = 0 := rfl
@[simp] theorem Driver.absent_handle : Driver.absent.handle = 0 := rfl
@[simp] theorem Driver.absent_inFlight : Driver.absent.inFlight = false := rfl
@[simp] theorem Driver.absent_stuck : Driver.absent.stuck = false := rfl
@[simp] theorem Driver.absent_rx : Driver.absent.rx = none := rfl
@[simp] theorem Driver.absent_pending : Driver.absent.pending = [] := rfl

end Sys2Proof.Machine
end

