-- ==== Sys2Proof/Laws/Ops.lean ====
section
/-! SUPPORT. One law per shared operation: all it can do, said once. -/

namespace Sys2Proof.Machine

/-! ## The loop exit (R203) -/

theorem loopExit_drv (c : ExitCause) (s : State) :
    (loopExit c s).drv =
      { s.drv with
        handleOpen := false
        closeCount := s.drv.closeCount + (if s.drv.handleOpen then 1 else 0)
        exitCause := c
        phase := .stopped
        inFlight := false
        rx := none
        pending := [] } := by
  unfold loopExit State.closeIfOpen Driver.stop
  cases h : s.drv.handleOpen <;> simp [h]

theorem loopExit_trace (c : ExitCause) (s : State) :
    (loopExit c s).trace =
      s.trace ++ (if s.drv.handleOpen then [.xportClose s.drv.handle] else []) := by
  unfold loopExit State.closeIfOpen
  cases h : s.drv.handleOpen <;> simp

@[simp] theorem loopExit_retired (c : ExitCause) (s : State) : (loopExit c s).retired = s.retired := by
  unfold loopExit State.closeIfOpen
  cases s.drv.handleOpen <;> simp

@[simp] theorem loopExit_ret (c : ExitCause) (s : State) : (loopExit c s).ret = s.ret := by
  unfold loopExit State.closeIfOpen
  cases s.drv.handleOpen <;> simp

@[simp] theorem loopExit_refusalMark (c : ExitCause) (s : State) :
    (loopExit c s).refusalMark = s.refusalMark := by
  unfold loopExit State.closeIfOpen
  cases s.drv.handleOpen <;> simp

@[simp] theorem loopExit_posBits (c : ExitCause) (s : State) : (loopExit c s).posBits = s.posBits := by
  unfold loopExit State.closeIfOpen
  cases s.drv.handleOpen <;> simp

@[simp] theorem loopExit_inputs (c : ExitCause) (s : State) : (loopExit c s).inputs = s.inputs := by
  unfold loopExit State.closeIfOpen
  cases s.drv.handleOpen <;> simp

/-- That the transfer in flight is over before the loop exits leaves no mark on the state after it. -/
@[simp] theorem loopExit_landed (c : ExitCause) (s : State) : loopExit c s.landed = loopExit c s := by
  unfold loopExit
  by_cases h : s.drv.handleOpen = true
  · rw [show s.landed.closeIfOpen = s.landed.closeHandle from if_pos h,
      show s.closeIfOpen = s.closeHandle from if_pos h]
    rfl
  · rw [show s.landed.closeIfOpen = s.landed from if_neg h, show s.closeIfOpen = s from if_neg h]
    rfl

/-- A failure of the loop always records a cause (R200, R202). -/
theorem exitCauseOf_classify_ne_none (f : LoopFailure) (k : Bool) :
    exitCauseOf (classify f k) ≠ .none := by
  cases f <;> cases k <;> simp [classify, exitCauseOf]

/-! ## Refusing (R206) -/

@[simp] theorem refuse_drv (w : RefuseReason) (s : State) : (refuse w s).drv = s.drv := rfl
@[simp] theorem refuse_retired (w : RefuseReason) (s : State) : (refuse w s).retired = s.retired := rfl
@[simp] theorem refuse_trace (w : RefuseReason) (s : State) : (refuse w s).trace = s.trace := rfl
@[simp] theorem refuse_ret (w : RefuseReason) (s : State) : (refuse w s).ret = .refused w := rfl
@[simp] theorem refuse_refusalMark (w : RefuseReason) (s : State) : (refuse w s).refusalMark = true := rfl
@[simp] theorem refuse_posBits (w : RefuseReason) (s : State) : (refuse w s).posBits = s.posBits := rfl
@[simp] theorem refuse_inputs (w : RefuseReason) (s : State) : (refuse w s).inputs = s.inputs := rfl

/-! ## What is due (R173, R176, R180) -/

theorem whenDue_next {i : Instr} {s t : State} {a : Host.Outcome State Fault Refusal}
    (h : whenDue i s a = .next t) : s.drv.phase ≠ .none ∧ s.due = some i ∧ a = .next t := by
  unfold whenDue at h
  split at h
  · cases h
  · split at h
    · exact ⟨‹_›, ‹_›, h⟩
    · cases h

theorem whenDue_due {i : Instr} {s : State} (a : Host.Outcome State Fault Refusal)
    (hp : s.drv.phase ≠ .none) (hd : s.due = some i) : whenDue i s a = a := by
  simp [whenDue, hp, hd]

theorem loopMoves_iff (s : State) :
    s.loopMoves = true ↔ s.drv.stuck = false ∧ s.drv.phase ≠ .none ∧ s.drv.phase ≠ .stopped := by
  simp [State.loopMoves, and_assoc]

/-- SEQ.EXIT is due at TOP alone, with KEEP_RUNNING = 0 (R173). -/
theorem due_seqExit {s : State} (h : s.due = some .seqExit) :
    s.drv.stuck = false ∧ s.drv.phase = .top ∧ s.drv.keepRunning = false := by
  unfold State.due at h
  split at h
  · rename_i hm
    have hs := ((loopMoves_iff s).1 hm).1
    split at h
    · split at h
      · simp at h
      · exact ⟨hs, ‹_›, by simpa using ‹¬ s.drv.keepRunning = true›⟩
    · unfold decodeResponse at h; split at h
      · simp at h
      · split at h <;> simp at h
    · simp at h
  · simp at h

/-- A response operation is due in DECODE alone, for the response in the buffer, as RSP dispatch
selects it (R130, R176). -/
theorem due_response {s : State} {i : Instr} (h : s.due = some i) (hp : i ≠ .seqPoll)
    (he : i ≠ .seqExit) :
    s.drv.stuck = false ∧ s.drv.phase = .decode ∧
      ∃ rpt, s.drv.rx = some rpt ∧ i = decodeResponse s.drv.expectedOp rpt := by
  unfold State.due at h
  split at h
  · rename_i hm
    have hs := ((loopMoves_iff s).1 hm).1
    split at h
    · split at h <;> simp at h <;> simp_all
    · rename_i rpt hph hrx
      exact ⟨hs, hph, rpt, hrx, by simpa using h.symm⟩
    · simp at h; exact absurd h.symm hp
  · simp at h

/-! ## The order of events (R142) -/

/-- Delivery order changes nothing but the order: the events are the same, each as often. -/
theorem arrange_perm (o : EventOrder) (evs : List Event) : (arrange o evs).Perm evs := by
  induction evs with
  | nil => cases o <;> simp [arrange, orderKinds]
  | cons e es ih =>
    refine List.Perm.trans ?_ (ih.cons e)
    cases o <;> cases e <;>
      simp [arrange, orderKinds, Event.kind, List.perm_iff_count, List.count_cons] <;>
      intros <;> omega

@[simp] theorem arrange_nil (o : EventOrder) : arrange o [] = [] := by
  cases o <;> simp [arrange, orderKinds]

end Sys2Proof.Machine
end

