-- ==== Sys2Proof/Laws/Moves.lean ====
section
/-! SUPPORT. What the sequencer, the embedder and one step of the machine can do, each said once: a claim
about every step is a case analysis over these. -/

namespace Sys2Proof.Machine

/-! ## The sequencer (R173 to R177, R180; R130 to R139) -/

/-- The moves of the sequencer from a state: one constructor per way a SEQ or RSP operation ends in a
next state. -/
inductive LoopMove (s : State) : State → Prop
  | blocked (hs : s.drv.stuck = true) (hp : s.drv.phase ≠ .none) (hq : s.drv.phase ≠ .stopped) :
      LoopMove s s
  | toWrite (hs : s.drv.stuck = false) (hp : s.drv.phase = .top) (hk : s.drv.keepRunning = true) :
      LoopMove s (setPhase .write s)
  | exit (hs : s.drv.stuck = false) (hp : s.drv.phase = .top) (hk : s.drv.keepRunning = false) :
      LoopMove s (loopExit .stopRequested s)
  | writeCall (hs : s.drv.stuck = false) (hp : s.drv.phase = .write) (hf : s.drv.inFlight = false) :
      LoopMove s (issueWrite s)
  | writeOk (hs : s.drv.stuck = false) (hp : s.drv.phase = .write) (hf : s.drv.inFlight = true)
      (ha : s.writeAnswer = .ok) : LoopMove s (setPhase .read s.tookWrite)
  | writeFailed (hs : s.drv.stuck = false) (hp : s.drv.phase = .write) (hf : s.drv.inFlight = true)
      (ha : s.writeAnswer = .ioFailure) : LoopMove s (raiseInLoop (.transport .write) s.tookWrite.landed)
  | writeHangs (hs : s.drv.stuck = false) (hp : s.drv.phase = .write) (hf : s.drv.inFlight = true)
      (ha : s.writeAnswer = .never) : LoopMove s (blockForever s.tookWrite)
  | readCall (hs : s.drv.stuck = false) (hp : s.drv.phase = .read) (hf : s.drv.inFlight = false) :
      LoopMove s (issueRead s)
  | readOk (bytes : List Byte) (rpt : Report) (hs : s.drv.stuck = false) (hp : s.drv.phase = .read)
      (hf : s.drv.inFlight = true) (ha : s.readAnswer = .buffer bytes)
      (hb : Report.ofBytes bytes = some rpt) :
      LoopMove s (s.tookRead.setDrv
        { s.drv with phase := .decode, inFlight := false, rx := some rpt })
  | readLength (bytes : List Byte) (hs : s.drv.stuck = false) (hp : s.drv.phase = .read)
      (hf : s.drv.inFlight = true) (ha : s.readAnswer = .buffer bytes)
      (hb : Report.ofBytes bytes = none) : LoopMove s (raiseInLoop .length s.tookRead.landed)
  | readFailed (hs : s.drv.stuck = false) (hp : s.drv.phase = .read) (hf : s.drv.inFlight = true)
      (ha : s.readAnswer = .ioFailure ∨ s.readAnswer = .timeout) :
      LoopMove s (raiseInLoop (.transport .read) s.tookRead.landed)
  | readHangs (hs : s.drv.stuck = false) (hp : s.drv.phase = .read) (hf : s.drv.inFlight = true)
      (ha : s.readAnswer = .never) : LoopMove s (blockForever s.tookRead)
  | update (rpt : Report) (newPos : Int) (hs : s.drv.stuck = false) (hp : s.drv.phase = .decode)
      (hr : s.drv.rx = some rpt) (hb : rpt.b0 = s.drv.expectedOp) (he : s.drv.expectedOp = 0x75)
      (ha : accumulate s.posBits s.drv.pos rpt.delta = some newPos) :
      LoopMove s (afterUpdate rpt newPos s)
  | mismatch (rpt : Report) (hs : s.drv.stuck = false) (hp : s.drv.phase = .decode)
      (hr : s.drv.rx = some rpt) (hb : rpt.b0 ≠ s.drv.expectedOp) : LoopMove s (discardResponse s)
  | opaqueId (rpt : Report) (hs : s.drv.stuck = false) (hp : s.drv.phase = .decode)
      (hr : s.drv.rx = some rpt) (hb : rpt.b0 = s.drv.expectedOp) (he : s.drv.expectedOp ≠ 0x75) :
      LoopMove s (outputId rpt s)
  | discarded (e : Event) (es : List Event) (hs : s.drv.stuck = false) (hp : s.drv.phase = .decode)
      (hr : s.drv.rx = none) (hq : s.drv.pending = e :: es) (hk : s.drv.sink = .default) :
      LoopMove s (receive e es s)
  | received (e : Event) (es : List Event) (k : SinkRef) (hs : s.drv.stuck = false)
      (hp : s.drv.phase = .decode) (hr : s.drv.rx = none) (hq : s.drv.pending = e :: es)
      (hk : s.drv.sink = .ref k) (ha : s.hookAnswer = .ok) : LoopMove s (receive e es s.tookHook)
  | hookFailed (e : Event) (es : List Event) (k : SinkRef) (hs : s.drv.stuck = false)
      (hp : s.drv.phase = .decode) (hr : s.drv.rx = none) (hq : s.drv.pending = e :: es)
      (hk : s.drv.sink = .ref k) (ha : s.hookAnswer = .failure) :
      LoopMove s (raiseInLoop .sink s.tookHook)
  | hookHangs (e : Event) (es : List Event) (k : SinkRef) (hs : s.drv.stuck = false)
      (hp : s.drv.phase = .decode) (hr : s.drv.rx = none) (hq : s.drv.pending = e :: es)
      (hk : s.drv.sink = .ref k) (ha : s.hookAnswer = .never) :
      LoopMove s (blockForever s.tookHook)
  | toSleep (hs : s.drv.stuck = false) (hp : s.drv.phase = .decode) (hr : s.drv.rx = none)
      (hq : s.drv.pending = []) : LoopMove s (setPhase .sleep s)
  | wake (hs : s.drv.stuck = false) (hp : s.drv.phase = .sleep) : LoopMove s (setPhase .top s)

theorem parseUpdate_next {rpt : Report} {s t : State} (h : parseUpdate rpt s = .next t) :
    ∃ p, accumulate s.posBits s.drv.pos rpt.delta = some p ∧ t = afterUpdate rpt p s := by
  unfold parseUpdate at h
  split at h
  · exact ⟨_, ‹_›, by cases h; rfl⟩
  · cases h

theorem dispatchResponse_move {rpt : Report} {s t : State} (hs : s.drv.stuck = false)
    (hp : s.drv.phase = .decode) (hr : s.drv.rx = some rpt)
    (h : dispatchResponse rpt s = .next t) : LoopMove s t := by
  unfold dispatchResponse at h
  split at h
  · cases h; exact .mismatch rpt hs hp hr ‹_›
  · rename_i hb
    split at h
    · obtain ⟨p, ha, rfl⟩ := parseUpdate_next h
      exact .update rpt p hs hp hr (not_not.1 hb) ‹_› ha
    · cases h; exact .opaqueId rpt hs hp hr (not_not.1 hb) ‹_›

theorem returnWrite_move {s : State} (hs : s.drv.stuck = false) (hp : s.drv.phase = .write)
    (hf : s.drv.inFlight = true) : LoopMove s (returnWrite s) := by
  unfold returnWrite
  split
  · exact .writeOk hs hp hf ‹_›
  · exact .writeFailed hs hp hf ‹_›
  · exact .writeHangs hs hp hf ‹_›

theorem returnRead_move {s : State} (hs : s.drv.stuck = false) (hp : s.drv.phase = .read)
    (hf : s.drv.inFlight = true) : LoopMove s (returnRead s) := by
  unfold returnRead
  split
  · split
    · exact .readOk _ _ hs hp hf ‹_› ‹_›
    · exact .readLength _ hs hp hf ‹_› ‹_›
  · exact .readFailed hs hp hf (.inl ‹_›)
  · exact .readFailed hs hp hf (.inr ‹_›)
  · exact .readHangs hs hp hf ‹_›

theorem deliverNext_move {s : State} (hs : s.drv.stuck = false) (hp : s.drv.phase = .decode)
    (hr : s.drv.rx = none) : LoopMove s (deliverNext s) := by
  unfold deliverNext
  split
  · exact .toSleep hs hp hr ‹_›
  · unfold deliver
    split
    · exact .discarded _ _ hs hp hr ‹_› ‹_›
    · split
      · exact .received _ _ _ hs hp hr ‹_› ‹_› ‹_›
      · exact .hookFailed _ _ _ hs hp hr ‹_› ‹_› ‹_›
      · exact .hookHangs _ _ _ hs hp hr ‹_› ‹_› ‹_›

theorem execSeqPoll_move {s t : State} (h : execSeqPoll s = .next t) : LoopMove s t := by
  unfold execSeqPoll at h
  cases hst : s.drv.stuck with
  | true =>
    cases hp : s.drv.phase <;> simp [hst, hp] at h <;> subst h <;>
      exact .blocked hst (by simp [hp]) (by simp [hp])
  | false =>
    cases hp : s.drv.phase <;> simp [hst, hp] at h
    · subst h
      unfold pollTop
      cases hk : s.drv.keepRunning
      · exact .exit hst hp hk
      · exact .toWrite hst hp hk
    · subst h
      cases hf : s.drv.inFlight
      · exact .writeCall hst hp hf
      · exact returnWrite_move hst hp hf
    · subst h
      cases hf : s.drv.inFlight
      · exact .readCall hst hp hf
      · exact returnRead_move hst hp hf
    · unfold pollDecode at h
      split at h
      · exact dispatchResponse_move hst hp ‹_› h
      · cases h; exact deliverNext_move hst hp ‹_›
    · subst h; exact .wake hst hp

theorem execSeqExit_move {s t : State} (h : execSeqExit s = .next t) : LoopMove s t := by
  obtain ⟨-, hd, ha⟩ := whenDue_next h
  obtain ⟨hs, hp, hk⟩ := due_seqExit hd
  cases ha; exact .exit hs hp hk

theorem execRspUpdate_move {rpt : Report} {s t : State} (h : execRspUpdate rpt s = .next t) :
    LoopMove s t := by
  obtain ⟨-, hd, ha⟩ := whenDue_next h
  obtain ⟨hs, hp, r, hr, he⟩ := due_response hd (by simp) (by simp)
  obtain ⟨p, hacc, rfl⟩ := parseUpdate_next ha
  unfold decodeResponse at he
  split at he
  · cases he
  · split at he
    · cases he; exact .update rpt p hs hp hr (not_not.1 ‹_›) ‹_› hacc
    · cases he

theorem execRspOpaque_move {rpt : Report} {s t : State} (h : execRspOpaque rpt s = .next t) :
    LoopMove s t := by
  obtain ⟨-, hd, ha⟩ := whenDue_next h
  obtain ⟨hs, hp, r, hr, he⟩ := due_response hd (by simp) (by simp)
  unfold decodeResponse at he
  split at he
  · cases he
  · split at he
    · cases he
    · cases he; cases ha; exact .opaqueId rpt hs hp hr (not_not.1 ‹_›) ‹_›

theorem execRspMismatch_move {rpt : Report} {s t : State} (h : execRspMismatch rpt s = .next t) :
    LoopMove s t := by
  obtain ⟨-, hd, ha⟩ := whenDue_next h
  obtain ⟨hs, hp, r, hr, he⟩ := due_response hd (by simp) (by simp)
  unfold decodeResponse at he
  split at he
  · cases he; cases ha; exact .mismatch rpt hs hp hr ‹_›
  · split at he <;> cases he

/-! ## The embedder (R100 to R107, R170 to R172, R178, R179) -/

/-- CTRL.OPEN on a fresh slot: what its four ends leave (R170 to R172, R251). -/
inductive OpenMove (sink : Option SinkRef) (s : State) : State → Prop
  | notFound (ha : s.openAnswer = .deviceNotFound) :
      OpenMove sink s ((s.tookOpen.emit (.xportOpen Config.vendorId Config.productId
        .deviceNotFound)).setRet (.error .deviceNotFound))
  | opened (h : Handle) (ha : s.openAnswer = .found h)
      (hw : (acquireHandle h s).writeAnswer = .ok) :
      OpenMove sink s ((((acquireHandle h s).tookWrite.emit (.memWrite h initConfigure)).setDrv
        (Driver.opened h (sinkOf sink))).setRet .driver)
  | initFailed (h : Handle) (ha : s.openAnswer = .found h)
      (hw : (acquireHandle h s).writeAnswer = .ioFailure) :
      OpenMove sink s (((acquireHandle h s).tookWrite.emit (.memWrite h initConfigure)).closeHandle.setRet
        (.error .deviceInitFailure))
  | hangs (h : Handle) (ha : s.openAnswer = .found h)
      (hw : (acquireHandle h s).writeAnswer = .never) :
      OpenMove sink s (((acquireHandle h s).tookWrite.emit (.memWrite h initConfigure)).setDrv
        { (acquireHandle h s).drv with inFlight := true, stuck := true })

theorem openDevice_move (sink : Option SinkRef) (s : State) : OpenMove sink s (openDevice sink s) := by
  unfold openDevice
  split
  · exact .notFound ‹_›
  · rename_i h ha
    unfold configureDevice
    cases hw : (acquireHandle h s).writeAnswer
    · exact .opened h ha hw
    · exact .initFailed h ha hw
    · exact .hangs h ha hw

/-- The moves of the embedder from a state. -/
inductive CallMove (s : State) : State → Prop
  | returned (rpt : Report) : CallMove s (s.setRet (.report rpt))
  | refused (why : RefuseReason) : CallMove s (refuse why s)
  | openFresh (sink : Option SinkRef) (t : State) (hp : s.drv.phase = .none)
      (hs : s.drv.stuck = false) (hm : OpenMove sink s t) : CallMove s t
  | openAgain (sink : Option SinkRef) (t : State) (hp : s.drv.phase = .stopped)
      (hm : OpenMove sink (s.setAside Driver.absent) t) : CallMove s t
  | closed (hp : s.drv.phase ≠ .none) (hg : s.drv.phase = .stopped → s.drv.handleOpen = false) :
      CallMove s ((stopRunning s).setRet .done)
  | tornDown (hp : s.drv.phase = .stopped) (ho : s.drv.handleOpen = true) :
      CallMove s ((stopRunning s).closeHandle.setRet .done)
  | sinkSet (k : SinkRef) (hp : s.drv.phase ≠ .none) :
      CallMove s ((s.setDrv { s.drv with sink := .ref k }).setRet .done)

theorem returnReport_move (r : Except RefuseReason Report) (s : State) : CallMove s (returnReport r s) := by
  cases r with
  | ok rpt => exact .returned rpt
  | error why => exact .refused why

theorem execCtrlOpen_move {sink : Option SinkRef} {s t : State} (h : execCtrlOpen sink s = .next t) :
    CallMove s t := by
  unfold execCtrlOpen at h
  split at h
  · cases h; exact .openFresh sink _ (‹_ ∧ _›).1 (‹_ ∧ _›).2 (openDevice_move sink s)
  · split at h
    · cases h; exact .openAgain sink _ ‹_› (openDevice_move sink _)
    · cases h

theorem execCtrlClose_move {s t : State} (h : execCtrlClose s = .next t) : CallMove s t := by
  unfold execCtrlClose at h
  split at h
  · cases h
  · rename_i hp
    split at h
    · rename_i hg
      split at h
      · cases h
      · cases h; exact .tornDown hg.2 hg.1
    · rename_i hg
      cases h
      refine .closed hp (fun hq => ?_)
      cases ho : s.drv.handleOpen
      · rfl
      · exact absurd ⟨ho, hq⟩ hg

theorem execCtrlSetSink_move {k : SinkRef} {s t : State} (h : execCtrlSetSink k s = .next t) :
    CallMove s t := by
  unfold execCtrlSetSink at h
  split at h
  · cases h
  · cases h; exact .sinkSet k ‹_›

/-- Every operation that ends in a next state is a move of the sequencer or of the embedder. -/
theorem exec_move {i : Instr} {s t : State} (h : exec i s = .next t) : LoopMove s t ∨ CallMove s t := by
  cases i with
  | cmdGetUpdate => cases h; exact .inr (returnReport_move _ s)
  | cmdGetId => cases h; exact .inr (returnReport_move _ s)
  | cmdConfigure m k => cases h; exact .inr (returnReport_move _ s)
  | cmdReset => cases h; exact .inr (returnReport_move _ s)
  | cmdLedAux p => cases h; exact .inr (returnReport_move _ s)
  | cmdBeep p => cases h; exact .inr (returnReport_move _ s)
  | rspUpdate r => exact .inl (execRspUpdate_move h)
  | rspOpaque r => exact .inl (execRspOpaque_move h)
  | rspMismatch r => exact .inl (execRspMismatch_move h)
  | ctrlOpen k => exact .inr (execCtrlOpen_move h)
  | ctrlClose => exact .inr (execCtrlClose_move h)
  | ctrlSetSink k => exact .inr (execCtrlSetSink_move h)
  | seqPoll => exact .inl (execSeqPoll_move h)
  | seqExit => exact .inl (execSeqExit_move h)

/-! ## One step of the machine (R12, R13) -/

/-- What a step does after its turn is taken: nothing, a move of the sequencer, a failure of the loop, or
a call of the embedder, carried out or refused. -/
inductive StepMove (s : State) : State → Prop
  | idle : StepMove s s
  | loop (t : State) (hm : LoopMove s t) : StepMove s t
  | failure (hl : s.loopMoves = true) : StepMove s (raiseInLoop .other s.landed)
  | call (t : State) (hb : s.openBlocked = false) (hm : CallMove s.tookCall t) : StepMove s t

theorem fetchCall_embedder {s : State} {i : Instr} (h : s.fetchCall = .ok i) : embedderMay i = true := by
  unfold State.fetchCall at h
  split at h
  · split at h
    · cases h; assumption
    · cases h
  · cases h

theorem embedder_exec_move {i : Instr} {s t : State} (hi : embedderMay i = true)
    (h : exec i s = .next t) : CallMove s t := by
  cases i with
  | cmdGetUpdate => cases h; exact returnReport_move _ s
  | cmdGetId => cases h; exact returnReport_move _ s
  | cmdConfigure m k => cases h; exact returnReport_move _ s
  | cmdReset => cases h; exact returnReport_move _ s
  | cmdLedAux p => cases h; exact returnReport_move _ s
  | cmdBeep p => cases h; exact returnReport_move _ s
  | rspUpdate r => simp [embedderMay] at hi
  | rspOpaque r => simp [embedderMay] at hi
  | rspMismatch r => simp [embedderMay] at hi
  | ctrlOpen k => exact execCtrlOpen_move h
  | ctrlClose => exact execCtrlClose_move h
  | ctrlSetSink k => exact execCtrlSetSink_move h
  | seqPoll => simp [embedderMay] at hi
  | seqExit => simp [embedderMay] at hi

theorem due_exec_move {i : Instr} {s t : State} (hd : s.due = some i) (h : exec i s = .next t) :
    LoopMove s t := by
  cases i with
  | rspUpdate r => exact execRspUpdate_move h
  | rspOpaque r => exact execRspOpaque_move h
  | rspMismatch r => exact execRspMismatch_move h
  | seqPoll => exact execSeqPoll_move h
  | seqExit => exact execSeqExit_move h
  | _ =>
    obtain ⟨-, -, r, -, he⟩ := due_response hd (by simp) (by simp)
    unfold decodeResponse at he
    split at he
    · cases he
    · split at he <;> cases he

theorem step_move {s t : State} (h : step s = .next t) : StepMove s.tookTurn t := by
  unfold step at h
  split at h
  · unfold callStep at h
    cases hb : s.tookTurn.openBlocked
    · simp only [hb, Bool.false_eq_true, if_false] at h
      split at h
      · exact .call _ hb (embedder_exec_move (fetchCall_embedder ‹_›) h)
      · cases h; exact .call _ hb (.refused _)
    · simp only [hb, if_true] at h
      cases h; exact .idle
  · unfold loopStep at h
    split at h
    · exact .loop _ (due_exec_move ‹_› h)
    · cases h; exact .idle
  · cases h
    unfold failLoop
    split
    · exact .failure ‹_›
    · exact .idle

/-! ## Runs -/

theorem run_zero (s : State) : Host.Core.run Sys2Proof.core 0 s = .next s := rfl

/-- A run begins with its first step. -/
theorem run_succ_next {s t : State} (h : step s = .next t) (n : Nat) :
    Host.Core.run Sys2Proof.core (n + 1) s = Host.Core.run Sys2Proof.core n t := by
  have e := Host.Core.run.eq_2 Sys2Proof.core s n
  rw [show Sys2Proof.core.step s = .next t from h] at e
  exact e

/-- A run of one step or more that ends in a next state has a first step that does. -/
theorem run_succ_inv {s u : State} {n : Nat}
    (h : Host.Core.run Sys2Proof.core (n + 1) s = .next u) :
    ∃ t, step s = .next t ∧ Host.Core.run Sys2Proof.core n t = .next u := by
  cases hs : step s with
  | next t => exact ⟨t, rfl, by rwa [run_succ_next hs] at h⟩
  | fault r =>
    have e := Host.Core.run.eq_2 Sys2Proof.core s n
    rw [show Sys2Proof.core.step s = .fault r from hs] at e
    exact absurd (e.symm.trans h) (by simp)
  | refused r =>
    have e := Host.Core.run.eq_2 Sys2Proof.core s n
    rw [show Sys2Proof.core.step s = .refused r from hs] at e
    exact absurd (e.symm.trans h) (by simp)

/-- A property that every step keeps holds after every run. -/
theorem run_keeps {P : State → Prop} (hP : ∀ s t, P s → step s = .next t → P t) :
    ∀ (n : Nat) (s t : State), P s → Host.Core.run Sys2Proof.core n s = .next t → P t := by
  intro n
  induction n with
  | zero => intro s t hs h; cases h; exact hs
  | succ n ih =>
    intro s t hs h
    obtain ⟨u, hu, hr⟩ := run_succ_inv h
    exact ih u t (hP s u hs hu) hr

end Sys2Proof.Machine
end

