-- ==== Sys2Proof/Laws/PerInstr.lean ====
section
/-! SUPPORT. The per-operation family `EncodeCanon`: an operation and its form with the opaque payload
written out to 7 bytes are the same word (R65, R100; log 26), one lemma per constructor. -/

namespace Sys2Proof.Laws.EncodeCanon

/-- The written-out form is well-formed whenever the operation is, has the same word, and is its own
written-out form. -/
def Statement (i : Instr) : Prop :=
  (i.wellFormed = true → (canon i).wellFormed = true) ∧ encode (canon i) = encode i ∧
    canon (canon i) = canon i

theorem cmdGetUpdate : Statement .cmdGetUpdate := ⟨id, rfl, rfl⟩

theorem cmdGetId : Statement .cmdGetId := ⟨id, rfl, rfl⟩

theorem cmdConfigure (mute scale : Nat) : Statement (.cmdConfigure mute scale) := ⟨id, rfl, rfl⟩

theorem cmdReset : Statement .cmdReset := ⟨id, rfl, rfl⟩

theorem cmdLedAux (payload : List Byte) : Statement (.cmdLedAux payload) := ⟨fun _ => rfl, rfl, rfl⟩

theorem cmdBeep (payload : List Byte) : Statement (.cmdBeep payload) := ⟨fun _ => rfl, rfl, rfl⟩

theorem rspUpdate (rpt : Report) : Statement (.rspUpdate rpt) := ⟨id, rfl, rfl⟩

theorem rspOpaque (rpt : Report) : Statement (.rspOpaque rpt) := ⟨id, rfl, rfl⟩

theorem rspMismatch (rpt : Report) : Statement (.rspMismatch rpt) := ⟨id, rfl, rfl⟩

theorem ctrlOpen (sink : Option SinkRef) : Statement (.ctrlOpen sink) := ⟨id, rfl, rfl⟩

theorem ctrlClose : Statement .ctrlClose := ⟨id, rfl, rfl⟩

theorem ctrlSetSink (sink : SinkRef) : Statement (.ctrlSetSink sink) := ⟨id, rfl, rfl⟩

theorem seqPoll : Statement .seqPoll := ⟨id, rfl, rfl⟩

theorem seqExit : Statement .seqExit := ⟨id, rfl, rfl⟩

end Sys2Proof.Laws.EncodeCanon
end

