-- ==== Sys2Proof/Tests/Slice0.lean ====
section
/-! SUPPORT. Tests of the model against spec/95_test_vectors.md and the rules, and for each statement of
Certificates/Slice0/Obligations.lean that has hypotheses a witness that meets them. -/

namespace Sys2Proof.Tests

open Sys2Proof.Machine

/-! ## Helpers -/

/-- The next state of an outcome, if it is one. -/
def nextOf : Host.Outcome State Fault Refusal → Option State
  | .next s => some s
  | _ => none

/-- The fault of an outcome, if it is one. -/
def faultOf : Host.Outcome State Fault Refusal → Option Fault
  | .fault f => some f
  | _ => none

/-- The refusal of an outcome, if it is one. -/
def refusedOf : Host.Outcome State Fault Refusal → Option Refusal
  | .refused r => some r
  | _ => none

/-- What a CMD operation returned. -/
def retOf (i : Instr) : Option Ret := (nextOf (exec i State.reset)).map State.ret

/-- After reset with another instance state. -/
def withDrv (d : Driver) : State := { State.reset with drv := d }

/-- The instance after reset with its loop at a phase. -/
def drvAt (p : Phase) : Driver := { State.reset.drv with phase := p }

/-- The loop in DECODE with POS, ROCKER_LAST and a response, the sink the reference 1. -/
def decoding (pos : Int) (last : BitVec 2) (rpt : Report) : State :=
  withDrv { drvAt .decode with pos := pos, rockerLast := last, rx := some rpt, sink := .ref 1 }

/-- The same, expecting a get-id response. -/
def decodingId (rpt : Report) : State :=
  withDrv { drvAt .decode with rx := some rpt, expectedOp := 0x3D }

/-- The loop in DECODE with events to deliver to a sink. -/
def delivering (sink : Sink) (keep : Bool) (evs : List Event) (hooks : List HookAnswer) : State :=
  { withDrv { drvAt .decode with pending := evs, sink := sink, keepRunning := keep } with
    inputs := { State.reset.inputs with hooks := hooks } }

/-- The loop at a phase with a transfer in flight and the answers to it. -/
def inTransfer (p : Phase) (keep : Bool) (ws : List WriteAnswer) (rs : List ReadAnswer) : State :=
  { withDrv { drvAt p with inFlight := true, keepRunning := keep } with
    inputs := { State.reset.inputs with writes := ws, reads := rs } }

/-- No instance yet, and the transport's answers to CTRL.OPEN. -/
def fresh (os : List OpenAnswer) (ws : List WriteAnswer) : State :=
  State.unopened { State.reset.inputs with opens := os, writes := ws }

/-- A loop that stopped as asked. -/
def stopped : State := loopExit .stopRequested State.reset

/-- A state whose next turns are given. -/
def withTurns (ts : List Turn) (s : State) : State :=
  { s with inputs := { s.inputs with turns := ts } }

/-- A state whose next step is the embedder's call of a word. -/
def calling (w : PortWord) (s : State) : State := s.offerCall w

/-- POS, ROCKER_LAST and the events not yet delivered. -/
def result (o : Host.Outcome State Fault Refusal) : Option (Int × BitVec 2 × List Event) :=
  (nextOf o).map (fun t => (t.drv.pos, t.drv.rockerLast, t.drv.pending))

/-- The same with the order of the events fixed to rotate, rocker, button. -/
def inOrder (s : State) : State :=
  { s with inputs := { s.inputs with orders := [.rotateRockerButton] } }

/-- PHASE, EXIT_CAUSE, HANDLE_OPEN and CLOSE_COUNT. -/
def ending (o : Host.Outcome State Fault Refusal) : Option (Phase × ExitCause × Bool × Nat) :=
  (nextOf o).map (fun t => (t.drv.phase, t.drv.exitCause, t.drv.handleOpen, t.drv.closeCount))

/-- V1's report (95 section 2.7). -/
def v1 : Report := ⟨0x75, 0x05, 0x00, 0x21, 0, 0, 0, 0⟩

/-- V6's report (95 section 2.7). -/
def v6 : Report := ⟨0x3D, 0x05, 0x00, 0x41, 0, 0, 0, 0⟩

/-! ## Well-formedness: an ill-formed term for each check -/

theorem test_wf_mute : (Instr.cmdConfigure 2 0).wellFormed = false ∧ (Instr.cmdConfigure 1 0).wellFormed = true := by decide
theorem test_wf_scale : (Instr.cmdConfigure 1 128).wellFormed = false ∧ (Instr.cmdConfigure 1 127).wellFormed = true := by decide
theorem test_wf_led : (Instr.cmdLedAux [1, 2, 3, 4, 5, 6, 7, 8]).wellFormed = false ∧ (Instr.cmdLedAux [1, 2, 3, 4, 5, 6, 7]).wellFormed = true := by decide
theorem test_wf_beep : (Instr.cmdBeep [1, 2, 3, 4, 5, 6, 7, 8]).wellFormed = false ∧ (Instr.cmdBeep [1, 2, 3, 4, 5, 6, 7]).wellFormed = true := by decide
theorem test_wf_update : (Instr.rspUpdate v6).wellFormed = false ∧ (Instr.rspUpdate v1).wellFormed = true := by decide
theorem test_wf_opaque : (Instr.rspOpaque v1).wellFormed = false ∧ (Instr.rspOpaque v6).wellFormed = true := by decide
theorem test_wf_condition_update : (Instr.rspUpdate v1).admits 0x3D = false ∧ (Instr.rspUpdate v1).admits 0x75 = true := by decide
theorem test_wf_condition_opaque : (Instr.rspOpaque v6).admits 0x75 = false ∧ (Instr.rspOpaque v6).admits 0x3D = true := by decide
theorem test_wf_condition_mismatch : (Instr.rspMismatch v1).admits 0x75 = false ∧ (Instr.rspMismatch v6).admits 0x75 = true := by decide

/-! ## Decoding: words written out from the spec's tables -/

-- 95 section 2.1, E1 to E8, and the opcodes of R70.
theorem test_decode_get_update : decode 0x75 (.tx [0x75, 0, 0, 0, 0, 0, 0, 0]) = .ok .cmdGetUpdate := by decide
theorem test_decode_get_id : decode 0x75 (.tx [0x3D, 0, 0, 0, 0, 0, 0, 0]) = .ok .cmdGetId := by decide
theorem test_decode_configure_init : decode 0x75 (.tx [0x43, 0x01, 0, 0, 0, 0, 0, 0]) = .ok (.cmdConfigure 1 0) := by decide
-- opt bit 0 is mute, bits 7:1 the scale (R64): 1111111 0 is scale 127 without mute.
theorem test_decode_configure_bits : decode 0x75 (.tx [0x43, 0b11111110, 0, 0, 0, 0, 0, 0]) = .ok (.cmdConfigure 0 127) := by decide
theorem test_decode_reset : decode 0x75 (.tx [0x72, 0, 0, 0, 0, 0, 0, 0]) = .ok .cmdReset := by decide
theorem test_decode_led : decode 0x75 (.tx [0x4F, 1, 2, 3, 4, 5, 6, 7]) = .ok (.cmdLedAux [1, 2, 3, 4, 5, 6, 7]) := by decide
theorem test_decode_beep : decode 0x75 (.tx [0x5A, 1, 2, 0, 0, 0, 0, 0]) = .ok (.cmdBeep [1, 2, 0, 0, 0, 0, 0]) := by decide
-- R76: each row's decoder and what it refuses.
theorem test_decode_unknown_opcode : decode 0x75 (.tx [0x55, 0, 0, 0, 0, 0, 0, 0]) = .error .opcode := by decide
theorem test_decode_padding_last : decode 0x75 (.tx [0x75, 0, 0, 0, 0, 0, 0, 1]) = .error .padding := by decide
theorem test_decode_padding_configure : decode 0x75 (.tx [0x43, 1, 1, 0, 0, 0, 0, 0]) = .error .padding := by decide
theorem test_decode_too_long : decode 0x75 (.tx [0x72, 0, 0, 0, 0, 0, 0, 0, 0]) = .error .payload := by decide
theorem test_decode_empty : decode 0x75 (.tx []) = .error .opcode := by decide
-- 95 section 2.7: V1 is an update, V6 to V8 are mismatches; R138 under EXPECTED_OP 0x3D.
theorem test_decode_update : decode 0x75 (.rx ⟨0x75, 5, 0, 0x21, 0, 0, 0, 0⟩) = .ok (.rspUpdate ⟨0x75, 5, 0, 0x21, 0, 0, 0, 0⟩) := by decide
theorem test_decode_mismatch : decode 0x75 (.rx ⟨0x55, 5, 0, 0x41, 0, 0, 0, 0⟩) = .ok (.rspMismatch ⟨0x55, 5, 0, 0x41, 0, 0, 0, 0⟩) := by decide
theorem test_decode_opaque : decode 0x3D (.rx ⟨0x3D, 1, 2, 3, 4, 5, 6, 7⟩) = .ok (.rspOpaque ⟨0x3D, 1, 2, 3, 4, 5, 6, 7⟩) := by decide
-- R66: the control codes.
theorem test_decode_open : decode 0x75 (.ctrl 0b000 none) = .ok (.ctrlOpen none) ∧ decode 0x75 (.ctrl 0b000 (some 9)) = .ok (.ctrlOpen (some 9)) := by decide
theorem test_decode_close : decode 0x75 (.ctrl 0b001 none) = .ok .ctrlClose := by decide
theorem test_decode_set_sink : decode 0x75 (.ctrl 0b010 (some 9)) = .ok (.ctrlSetSink 9) ∧ decode 0x75 (.ctrl 0b010 none) = .error .controlOperand := by decide
theorem test_decode_poll : decode 0x75 (.ctrl 0b011 none) = .ok .seqPoll ∧ decode 0x75 (.ctrl 0b011 (some 9)) = .error .controlOperand := by decide
theorem test_decode_exit : decode 0x75 (.ctrl 0b100 none) = .ok .seqExit := by decide
theorem test_decode_reserved : ∀ c : BitVec 3, c = 5 ∨ c = 6 ∨ c = 7 → decode 0x75 (.ctrl c none) = .error .reservedControl := by decide
-- The numbering of spec/opcode_table.json: E5c's and V1's W, and a 3-bit code in one byte.
theorem test_table_led : decodeTableWord 64 0x070605040302014F = some (.cmdLedAux [1, 2, 3, 4, 5, 6, 7]) := by decide
theorem test_table_update : decodeTableWord 64 0x0000000021000575 = some (.rspUpdate ⟨0x75, 5, 0, 0x21, 0, 0, 0, 0⟩) := by decide
theorem test_table_set_sink : decodeTableWord 8 2 = some (.ctrlSetSink 0) := by decide
theorem test_table_reserved : decodeTableWord 8 5 = none := by decide

/-! ## The command encoder (95 section 2.1) -/

theorem test_get_update : retOf .cmdGetUpdate = some (.report ⟨0x75, 0, 0, 0, 0, 0, 0, 0⟩) := by decide
theorem test_get_id : retOf .cmdGetId = some (.report ⟨0x3D, 0, 0, 0, 0, 0, 0, 0⟩) := by decide
-- E3c, E3d.
theorem test_configure : retOf (.cmdConfigure 0 5) = some (.report ⟨0x43, 0x0A, 0, 0, 0, 0, 0, 0⟩) ∧ retOf (.cmdConfigure 1 127) = some (.report ⟨0x43, 0xFF, 0, 0, 0, 0, 0, 0⟩) := by decide
-- E3e, E3f.
theorem test_configure_refused : retOf (.cmdConfigure 1 128) = some (.refused .operand) ∧ retOf (.cmdConfigure 2 0) = some (.refused .operand) := by decide
theorem test_reset_command : retOf .cmdReset = some (.report ⟨0x72, 0, 0, 0, 0, 0, 0, 0⟩) := by decide
-- E5, E5d.
theorem test_led : retOf (.cmdLedAux [1]) = some (.report ⟨0x4F, 1, 0, 0, 0, 0, 0, 0⟩) := by decide
theorem test_led_refused : retOf (.cmdLedAux [1, 2, 3, 4, 5, 6, 7, 8]) = some (.refused .payload) := by decide
-- E6.
theorem test_beep : retOf (.cmdBeep [1, 2]) = some (.report ⟨0x5A, 1, 2, 0, 0, 0, 0, 0⟩) := by decide
theorem test_beep_refused : retOf (.cmdBeep [1, 2, 3, 4, 5, 6, 7, 8]) = some (.refused .payload) := by decide
-- E7, E8.
theorem test_frame : (frame 0x55 []).toOption = none ∧ (frame 0x75 [0]).toOption = some ⟨0x75, 0, 0, 0, 0, 0, 0, 0⟩ := by decide
-- E5c: W.
theorem test_word : (Report.mk 0x4F 1 2 3 4 5 6 7).word = 0x070605040302014F := by decide

/-! ## The report parser (95 sections 2.2 to 2.7) -/

theorem test_delta : ([⟨0x75, 0xFF, 0xFF, 0, 0, 0, 0, 0⟩, ⟨0x75, 0xFF, 0x7F, 0, 0, 0, 0, 0⟩, ⟨0x75, 0x00, 0x80, 0, 0, 0, 0, 0⟩, ⟨0x75, 0x34, 0x12, 0, 0, 0, 0, 0⟩, ⟨0x75, 0xCC, 0xED, 0, 0, 0, 0, 0⟩] : List Report).map Report.delta = [-1, 32767, -32768, 4660, -4660] := by decide
theorem test_control_byte : ([⟨0x75, 0, 0, 0x35, 0, 0, 0, 0⟩, ⟨0x75, 0, 0, 0x4A, 0, 0, 0, 0⟩, ⟨0x75, 0, 0, 0xC3, 0, 0, 0, 0⟩, ⟨0x75, 0, 0, 0xFF, 0, 0, 0, 0⟩] : List Report).map (fun r => (r.buttons, r.tapHold, r.rocker)) = [(5, true, 1), (10, false, 2), (3, false, 2), (15, true, 3)] := by decide
-- V1, V9.
theorem test_update_v1 : result (exec (.rspUpdate v1) (inOrder (decoding 0 3 v1))) = some (5, 1, [.rotate 5, .rocker 1, .button 1 false]) := by decide
theorem test_update_v9 : result (exec (.rspUpdate ⟨0x75, 0xCC, 0xED, 0x5F, 0, 0, 0, 0⟩) (inOrder (decoding (-1) 0 ⟨0x75, 0xCC, 0xED, 0x5F, 0, 0, 0, 0⟩))) = some (-4661, 2, [.rotate (-4661), .rocker 2, .button 15 true]) := by decide
-- V6: the response is dropped, POS and ROCKER_LAST stand.
theorem test_mismatch_v6 : result (exec (.rspMismatch v6) (decoding 7 1 v6)) = some (7, 1, []) := by decide
-- R138.
theorem test_opaque : (nextOf (exec (.rspOpaque v6) (decodingId v6))).map (fun t => (t.trace.getLast?, t.drv.pos, t.drv.pending)) = some (some (.idOut v6), 0, []) := by decide
-- 95 section 2.4, last row.
theorem test_overflow : faultOf (exec (.rspUpdate ⟨0x75, 1, 0, 0, 0, 0, 0, 0⟩) { decoding 32767 0 ⟨0x75, 1, 0, 0, 0, 0, 0, 0⟩ with posBits := some 16 }) = some .positionOverflow := by decide

/-! ## Lifecycle (95 section 2.8) -/

-- L1.
theorem test_open_l1 : (nextOf (exec (.ctrlOpen none) (fresh [.found 0] [.ok]))).map (fun t => (t.drv, t.trace, t.ret)) = some (State.reset.drv, [.xportOpen 0x04D8 0xF12D (.found 0), .memWrite 0 ⟨0x43, 0x01, 0, 0, 0, 0, 0, 0⟩], .driver) := by decide
-- L3 (and L2 in the witness of OpenWithoutDeviceFails).
theorem test_open_l3 : (nextOf (exec (.ctrlOpen none) (fresh [.found 0] [.ioFailure]))).map (fun t => (t.drv.phase, t.drv.closeCount, t.ret)) = some (.none, 1, .error .deviceInitFailure) := by decide
-- L9.
theorem test_close_l9 : ending (exec .ctrlClose stopped) = some (.stopped, .stopRequested, false, 1) := by decide
theorem test_close_running : (nextOf (exec .ctrlClose State.reset)).map (fun t => (t.drv.keepRunning, t.drv.phase, t.drv.closeCount)) = some (false, .top, 0) := by decide
-- R179, at STOPPED too.
theorem test_set_sink : (nextOf (exec (.ctrlSetSink 4) stopped)).map (fun t => (t.drv.sink, t.drv.phase)) = some (.ref 4, .stopped) := by decide
-- L5.
theorem test_poll_l5 : ending (exec .seqPoll (inTransfer .write true [.ioFailure] [])) = some (.stopped, .ioFailure, false, 1) := by decide
-- L7, L7b: a 5-byte buffer.
theorem test_poll_l7 : ending (exec .seqPoll (inTransfer .read true [] [.buffer [1, 2, 3, 4, 5]])) = some (.stopped, .unexpectedFailure, false, 1) ∧ ending (exec .seqPoll (inTransfer .read false [] [.buffer [1, 2, 3, 4, 5]])) = some (.stopped, .stopRequested, false, 1) := by decide
-- L4.
theorem test_exit_l4 : ending (exec .seqExit (withDrv { drvAt .top with keepRunning := false })) = some (.stopped, .stopRequested, false, 1) := by decide
-- L12.
theorem test_reserved_l12 : (nextOf (step (calling (.ctrl 5 none) State.reset))).map (fun t => (t.drv, t.refusalMark, t.ret)) = some (State.reset.drv, true, .refused .reservedControl) := by decide
-- R10, R102: an embedder's call through the ports.
theorem test_step_call : (nextOf (step (calling (.tx [0x3D, 0, 0, 0, 0, 0, 0, 0]) State.reset))).map State.ret = some (.report ⟨0x3D, 0, 0, 0, 0, 0, 0, 0⟩) := by decide

/-! ## Witnesses: for each statement with hypotheses, a state and operands that meet them -/

theorem reset_sound : State.reset.Sound := ⟨⟨by decide, by decide⟩, by intro d hd; cases hd⟩

theorem stopped_sound : stopped.Sound := ⟨⟨by decide, by decide⟩, by intro d hd; cases hd⟩

theorem witness_DecodeOfEncodeIsTheOperation :
    ((Instr.cmdConfigure 1 127).wellFormed = true ∧ (Instr.cmdConfigure 1 127).admits 0x75 = true) ∧
    ((Instr.cmdBeep [1, 2, 3, 4, 5, 6, 7]).wellFormed = true ∧ [1, 2, 3, 4, 5, 6, 7].length = 7) ∧
    ((Instr.rspUpdate v1).wellFormed = true ∧ (Instr.rspUpdate v1).admits 0x75 = true) ∧
    ((Instr.rspOpaque v6).wellFormed = true ∧ (Instr.rspOpaque v6).admits 0x3D = true) := by decide

theorem witness_EncodeOfDecodeIsTheWord :
    [0x43, 0xFF, 0, 0, 0, 0, 0, 0].length = 8 ∧
    decode 0x75 (.tx [0x43, 0xFF, 0, 0, 0, 0, 0, 0]) = .ok (.cmdConfigure 1 127) := by decide

theorem witness_DecodersSelectTheRow :
    ((0x76 : Byte) ∉ [(0x75 : Byte), 0x3D, 0x43, 0x72, 0x4F, 0x5A]) ∧
    decode 0x75 (.tx [0x72, 0, 0, 0, 0, 0, 0, 0]) = .ok .cmdReset ∧
    decode 0x75 (.tx [0x43, 0xFF, 0, 0, 0, 0, 0, 0]) = .ok (.cmdConfigure 1 127) ∧
    v6.b0 ≠ 0x75 ∧ v1.b0 = 0x75 ∧ v6.b0 = 0x3D := by decide

theorem witness_ControlCodesSelectOrAreRefused :
    (∀ c : BitVec 3, 3 ≤ c.toNat →
      (calling (.ctrl c none) State.reset).nextTurn = .call ∧
      (calling (.ctrl c none) State.reset).tookTurn.nextCall = .ctrl c none ∧
      (calling (.ctrl c none) State.reset).openBlocked = false) ∧
    (calling (.ctrl 5 (some 1)) State.reset).tookTurn.nextCall = .ctrl 5 (some 1) ∧
    5 ≤ (5 : BitVec 3).toNat := by decide

theorem witness_FrameIsOpcodePayloadZeros :
    ((0x76 : Byte) ∉ [(0x75 : Byte), 0x3D, 0x43, 0x72, 0x4F, 0x5A]) ∧
    ((0x5A : Byte) ∈ [(0x75 : Byte), 0x3D, 0x43, 0x72, 0x4F, 0x5A]) ∧
    7 < [1, 2, 3, 4, 5, 6, 7, 8].length ∧ [1, 2, 3, 4, 5, 6, 7].length ≤ 7 := by decide

theorem witness_ConfigureReturnsOptionByte :
    retOf (.cmdConfigure 1 127) = some (.report ⟨0x43, BitVec.ofNat 8 (2 * 127 + 1), 0, 0, 0, 0, 0, 0⟩) ∧
    retOf (.cmdConfigure 0 128) = some (.refused .operand) := by decide

theorem witness_OpaqueCommandsPassPayload :
    retOf (.cmdBeep [1, 2, 3, 4, 5, 6, 7]) = some (.report ⟨0x5A, 1, 2, 3, 4, 5, 6, 7⟩) ∧
    retOf (.cmdBeep []) = some (.report ⟨0x5A, 0, 0, 0, 0, 0, 0, 0⟩) := by decide

theorem witness_CommandsDependOnOperandsAlone : isCommand (.cmdBeep [1]) = true := by decide

theorem witness_RefusalMarkStays :
    ((nextOf (step (calling (.ctrl 1 none) State.reset.mark))).map State.refusalMark = some true) ∧
    ((nextOf (loopStep State.reset)).map State.refusalMark = some false) := by decide

theorem witness_ResponseDispatch :
    ((decoding 7 1 v6).awaits v6 ∧ v6.b0 ≠ (decoding 7 1 v6).drv.expectedOp) ∧
    ((decoding 0 3 v1).awaits v1 ∧ v1.b0 = (decoding 0 3 v1).drv.expectedOp) ∧
    ((decodingId v6).awaits v6 ∧ v6.b0 = (decodingId v6).drv.expectedOp ∧
      (decodingId v6).drv.expectedOp ≠ 0x75) := by decide

/-- The width 16 holds 32767 and not 32768. -/
theorem within_16 : withinWidth (some 16) 32767 ∧ withinWidth (some 16) (-32768) ∧
    ¬ withinWidth (some 16) 32768 := by
  refine ⟨?_, ?_, fun h => absurd (h 16 rfl) (by decide)⟩ <;> (intro n h; cases h; decide)

theorem witness_UpdateResponseResult :
    (decoding 0 3 v1).awaits v1 ∧ v1.b0 = 0x75 ∧ (decoding 0 3 v1).drv.expectedOp = 0x75 ∧
    withinWidth (decoding 0 3 v1).posBits ((decoding 0 3 v1).drv.pos + wireDelta v1) :=
  ⟨by decide, by decide, by decide, by intro n h; cases h⟩

theorem witness_UpdateResponseResult_finite :
    wireDelta v1 = 5 ∧ withinWidth { decoding 32762 3 v1 with posBits := some 16 }.posBits (32762 + 5) :=
  ⟨by decide, within_16.1⟩

theorem witness_EventsWaitInTheDrawnOrder :
    (∃ t, exec (.rspUpdate v1) (decoding 0 3 v1) = .next t) ∧
    [EventKind.button, .rocker, .rotate].Perm [.rotate, .rocker, .button] := ⟨⟨_, rfl⟩, by decide⟩

theorem witness_PositionOverflowFaults :
    (decoding 32763 3 v1).awaits v1 ∧ wireDelta v1 = 5 ∧ withinWidth (some 16) 32763 ∧
    ¬ withinWidth (some 16) (32763 + 5) ∧ (decoding 32763 3 v1).posBits = none :=
  ⟨by decide, by decide, by intro n h; cases h; decide, within_16.2.2, rfl⟩

theorem witness_ComparatorsAreIndependent :
    (∃ t, exec (.rspUpdate v1) (decoding 0 3 v1) = .next t) ∧
    (∃ t, exec (.rspUpdate ⟨0x75, 5, 0, 0x42, 0, 0, 0, 0⟩) (decoding 0 0 ⟨0x75, 5, 0, 0x42, 0, 0, 0, 0⟩) = .next t) ∧
    (∃ t, exec (.rspUpdate ⟨0x75, 9, 0, 0x22, 0, 0, 0, 0⟩) (decoding 4 3 ⟨0x75, 9, 0, 0x22, 0, 0, 0, 0⟩) = .next t) ∧
    (∃ t, exec (.rspUpdate ⟨0x75, 9, 0, 0x41, 0, 0, 0, 0⟩) (decoding 4 3 ⟨0x75, 9, 0, 0x41, 0, 0, 0, 0⟩) = .next t) ∧
    wireRocker v1 = wireRocker ⟨0x75, 9, 0, 0x22, 0, 0, 0, 0⟩ ∧
    wireButtons v1 = wireButtons ⟨0x75, 9, 0, 0x41, 0, 0, 0, 0⟩ ∧
    wireHold v1 = wireHold ⟨0x75, 9, 0, 0x41, 0, 0, 0, 0⟩ :=
  ⟨⟨_, rfl⟩, ⟨_, rfl⟩, ⟨_, rfl⟩, ⟨_, rfl⟩, by decide, by decide, by decide⟩

theorem witness_ReservedFieldsIgnored :
    v1.b3.toNat % 128 = (⟨0x75, 5, 0, 0xA1, 0xDE, 0xAD, 0xBE, 0xEF⟩ : Report).b3.toNat % 128 ∧
    result (exec (.rspUpdate ⟨0x75, 5, 0, 0xA1, 0xDE, 0xAD, 0xBE, 0xEF⟩)
      (inOrder (decoding 0 3 ⟨0x75, 5, 0, 0xA1, 0xDE, 0xAD, 0xBE, 0xEF⟩))) =
      some (5, 1, [.rotate 5, .rocker 1, .button 1 false]) := by decide

theorem witness_MismatchedResponseDiscarded :
    (decoding 7 1 v6).awaits v6 ∧ v6.b0 ≠ (decoding 7 1 v6).drv.expectedOp := by decide

theorem witness_OpaqueResponseGoesToIdOut :
    ((decodingId v6).awaits v6 ∧ v6.b0 = (decodingId v6).drv.expectedOp ∧
      (decodingId v6).drv.expectedOp ≠ 0x75) ∧ State.reset.Sound :=
  ⟨by decide, reset_sound⟩

theorem witness_SinkDoesNotChangeEvents :
    ∃ t, exec (.rspUpdate v1) (decoding 0 3 v1) = .next t := ⟨_, rfl⟩

theorem witness_OpenBringsReset :
    (fresh [.found 0] [.ok]).drv.phase = .none ∧ (fresh [.found 0] [.ok]).drv.stuck = false ∧
    (fresh [.found 0] [.ok]).openAnswer = .found 0 ∧
    (fresh [.found 0] [.ok]).tookOpen.writeAnswer = .ok := by decide

theorem witness_OpenWithoutDeviceFails :
    (fresh [.deviceNotFound] []).drv.phase = .none ∧ (fresh [.deviceNotFound] []).drv.stuck = false ∧
    (fresh [.deviceNotFound] []).openAnswer = .deviceNotFound ∧
    (nextOf (exec (.ctrlOpen none) (fresh [.deviceNotFound] []))).map State.ret =
      some (.error .deviceNotFound) := by decide

theorem witness_OpenInitFailureClosesHandle :
    (fresh [.found 3] [.ioFailure]).drv.phase = .none ∧ (fresh [.found 3] [.ioFailure]).drv.stuck = false ∧
    (fresh [.found 3] [.ioFailure]).openAnswer = .found 3 ∧
    (fresh [.found 3] [.ioFailure]).tookOpen.writeAnswer = .ioFailure := by decide

theorem witness_OpenMayBlockForEver :
    (fresh [.found 3] [.never]).drv.phase = .none ∧ (fresh [.found 3] [.never]).drv.stuck = false ∧
    (fresh [.found 3] [.never]).openAnswer = .found 3 ∧
    (fresh [.found 3] [.never]).tookOpen.writeAnswer = .never := by decide

theorem witness_OpenAfterStopIsANewInstance : stopped.drv.phase = .stopped := by decide

theorem witness_SecondOpenRefused :
    (State.reset.drv.phase ≠ .none ∧ State.reset.drv.phase ≠ .stopped) ∧
    refusedOf (exec (.ctrlOpen none) State.reset) = some .secondInstance ∧
    (nextOf (exec (.ctrlOpen none) (fresh [.found 3] [.never]))).map
      (fun t => (t.drv.phase, t.drv.stuck)) = some (.none, true) := by decide

theorem witness_CloseClearsKeepRunning :
    (State.reset.drv.phase ≠ .none ∧ State.reset.drv.phase ≠ .stopped) ∧
    (stopped.drv.phase = .stopped ∧ stopped.drv.handleOpen = false) ∧
    ((withDrv (drvAt .stopped)).drv.phase = .stopped ∧ (withDrv (drvAt .stopped)).drv.handleOpen = true ∧
      (withDrv (drvAt .stopped)).drv.inFlight = false) ∧ stopped.Sound :=
  ⟨by decide, by decide, by decide, stopped_sound⟩

theorem witness_SetSinkBindsTheSink :
    State.reset.drv.phase ≠ .none ∧ stopped.drv.phase ≠ .none := by decide

theorem witness_NoInstanceFaults :
    (fresh [] []).drv.phase = .none ∧ isCommand .ctrlClose = false ∧
    faultOf (exec .ctrlClose (fresh [] [])) = some .noInstance ∧
    faultOf (exec (.rspMismatch v6) (fresh [] [])) = some .noInstance := by decide

theorem witness_TopTestsKeepRunning :
    (State.reset.runsIn .top ∧ State.reset.drv.keepRunning = true) ∧
    ((withDrv { drvAt .top with keepRunning := false }).runsIn .top ∧
      (withDrv { drvAt .top with keepRunning := false }).drv.keepRunning = false) := by decide

theorem witness_WritePhase :
    ((withDrv (drvAt .write)).runsIn .write ∧ (withDrv (drvAt .write)).drv.inFlight = false) ∧
    (∀ a : WriteAnswer, (inTransfer .write true [a] []).runsIn .write ∧
      (inTransfer .write true [a] []).drv.inFlight = true ∧
      (inTransfer .write true [a] []).writeAnswer = a) :=
  ⟨by decide, fun a => by cases a <;> decide⟩

theorem witness_ReadPhase :
    ((withDrv (drvAt .read)).runsIn .read ∧ (withDrv (drvAt .read)).drv.inFlight = false) ∧
    (inTransfer .read true [] [.buffer v1.bytes]).readAnswer = .buffer v1.bytes ∧
    (inTransfer .read true [] [.timeout]).readAnswer = .timeout ∧
    (inTransfer .read true [] [.buffer [1, 2, 3, 4, 5, 6, 7]]).drv.inFlight = true ∧
    (inTransfer .read true [] [.buffer [1, 2, 3, 4, 5, 6, 7]]).readAnswer =
      .buffer [1, 2, 3, 4, 5, 6, 7] ∧
    [1, 2, 3, 4, 5, 6, 7].length ≠ 8 ∧ [1, 2, 3, 4, 5, 6, 7, 8, 9].length ≠ 8 := by decide

theorem witness_DecodePhaseDelivers :
    ((delivering .default true [] []).runsIn .decode ∧ (delivering .default true [] []).drv.rx = none ∧
      (delivering .default true [] []).drv.pending = []) ∧
    ((delivering .default true [.rotate 5] []).drv.sink = .default) ∧
    ((delivering (.ref 1) true [.rotate 5] [.ok]).hookAnswer = .ok ∧
      (delivering (.ref 1) true [.rotate 5] [.ok]).drv.sink = .ref 1) ∧
    (ending (exec .seqPoll (delivering (.ref 1) true [.rotate 5] [.failure])) =
      some (.stopped, .unexpectedFailure, false, 1)) := by decide

theorem witness_SleepPhaseReturnsToTop : (withDrv (drvAt .sleep)).runsIn .sleep := by decide

theorem witness_ExitStopsTheLoop :
    (withDrv { drvAt .top with keepRunning := false }).runsIn .top ∧
    (withDrv { drvAt .top with keepRunning := false }).drv.keepRunning = false := by decide

theorem witness_LoopExitEffect :
    ∃ t, step (withTurns [.failure] State.reset) = .next t ∧
      (withTurns [.failure] State.reset).drv.phase ≠ .stopped ∧ t.drv.phase = .stopped :=
  ⟨_, rfl, by decide, by decide⟩

theorem witness_FailureClassification :
    (∀ d, LoopFailure.length ≠ .transport d) ∧
    (∀ s ∈ [withTurns [.failure] State.reset, withTurns [.failure] (inTransfer .write true [] [])],
      s.nextTurn = .failure ∧ s.drv.stuck = false ∧ s.drv.phase ≠ .none ∧ s.drv.phase ≠ .stopped) ∧
    (∀ s ∈ [withTurns [.loop] (inTransfer .write true [.ioFailure] []),
        withTurns [.loop] (inTransfer .read true [] [.timeout]),
        withTurns [.failure] (inTransfer .write true [] [])],
      s.Sound ∧ s.drv.inFlight = true ∧ s.drv.phase ≠ .stopped ∧
      ∃ t, step s = .next t ∧ t.drv.phase = .stopped) := by
  refine ⟨fun _ h => (by cases h), by decide, fun s hs => ?_⟩
  simp only [List.mem_cons, List.not_mem_nil, or_false] at hs
  rcases hs with rfl | rfl | rfl <;>
    exact ⟨⟨⟨by decide, by decide⟩, by intro d hd; cases hd⟩, by decide, by decide, ⟨_, rfl, by decide⟩⟩

/-- R226, R202, R203: an unexpected failure with get-update handed over and its write not yet returned,
and one in a read while a stop is pending. -/
theorem test_failure_in_transfer :
    ending (step (withTurns [.failure] (inTransfer .write true [] []))) =
      some (.stopped, .unexpectedFailure, false, 1) ∧
    ending (step (withTurns [.failure] (inTransfer .read false [] []))) =
      some (.stopped, .stopRequested, false, 1) := by decide

theorem witness_InternalStepsOnlyWhereDue :
    (State.reset.drv.phase ≠ .none ∧ State.reset.due ≠ some (.rspUpdate v1) ∧
      State.reset.due ≠ some (.rspOpaque v1) ∧ State.reset.due ≠ some (.rspMismatch v1) ∧
      State.reset.due ≠ some .seqExit) ∧
    (stopped.drv.phase ≠ .none ∧ stopped.drv.phase = .stopped) := by decide

theorem witness_StepRunsTheDecodedOperation :
    ((calling (.ctrl 1 none) State.reset).nextTurn = .call ∧
      (calling (.ctrl 1 none) State.reset).openBlocked = false ∧
      decode 0x75 (calling (.ctrl 1 none) State.reset).tookTurn.nextCall = .ok .ctrlClose ∧
      embedderMay .ctrlClose = true) ∧
    ((withTurns [.loop] (decoding 0 3 v1)).nextTurn = .loop ∧
      (withTurns [.loop] (decoding 0 3 v1)).due = some (.rspUpdate v1)) := by decide

theorem witness_StepIdlesWithoutWork :
    ((withTurns [.loop] stopped).nextTurn = .loop ∧ (withTurns [.loop] stopped).due = none) ∧
    ((withTurns [.failure] stopped).nextTurn = .failure ∧
      (withTurns [.failure] stopped).loopMoves = false) ∧
    ((withTurns [.call] (withDrv { drvAt .none with stuck := true })).nextTurn = .call ∧
      (withTurns [.call] (withDrv { drvAt .none with stuck := true })).openBlocked = true) := by decide

theorem witness_StepKeepsSound :
    (withTurns [.loop] State.reset).Sound ∧ ∃ t, step (withTurns [.loop] State.reset) = .next t :=
  ⟨reset_sound, ⟨_, rfl⟩⟩

theorem witness_StepKeepsPortOrder :
    (withTurns [.loop] State.reset).Sound ∧ (withTurns [.loop] State.reset).Ordered ∧
    ∃ t, step (withTurns [.loop] State.reset) = .next t :=
  ⟨reset_sound, ⟨.configured 0, by decide, by decide⟩, ⟨_, rfl⟩⟩

theorem witness_StepKeepsPositionInWidth :
    withinWidth { withTurns [.loop] (decoding 32762 3 v1) with posBits := some 16 }.posBits 32762 ∧
    ∃ t, step { withTurns [.loop] (decoding 32762 3 v1) with posBits := some 16 } = .next t :=
  ⟨by intro n h; cases h; decide, ⟨_, rfl⟩⟩

theorem witness_HandleClosedExactlyOnce :
    (withTurns [.failure] State.reset).Sound ∧
    ∃ t, Host.Core.run Sys2Proof.core 1 (withTurns [.failure] State.reset) = .next t :=
  ⟨reset_sound, ⟨_, rfl⟩⟩

/-- A step in which POS and ROCKER_LAST change. -/
theorem witness_DeviceStateChangesWithItsEvent :
    (withTurns [.loop] (decoding 0 3 v1)).Sound ∧
    ∃ t, step (withTurns [.loop] (decoding 0 3 v1)) = .next t ∧
      sameInstance (withTurns [.loop] (decoding 0 3 v1)) t ∧ t.drv.pos ≠ 0 ∧ t.drv.rockerLast ≠ 3 :=
  ⟨⟨⟨by decide, by decide⟩, by intro d hd; cases hd⟩, ⟨_, rfl, by decide, by decide, by decide⟩⟩

theorem witness_OnlyCloseClearsKeepRunning :
    (∃ t, exec .ctrlClose State.reset = .next t ∧ sameInstance State.reset t ∧
      State.reset.drv.keepRunning = true ∧ t.drv.keepRunning = false) ∧
    (∃ t, step (withTurns [.loop] (withDrv { drvAt .sleep with keepRunning := false })) = .next t ∧
      sameInstance (withTurns [.loop] (withDrv { drvAt .sleep with keepRunning := false })) t) :=
  ⟨⟨_, rfl, by decide, by decide, by decide⟩, ⟨_, rfl, by decide⟩⟩

theorem witness_PhaseMovesAlongTheLoop :
    ∃ t, step (withTurns [.loop] State.reset) = .next t ∧ sameInstance (withTurns [.loop] State.reset) t ∧
      t.drv.phase = .write := ⟨_, rfl, by decide, by decide⟩

theorem witness_ExitCauseIsSetOnce :
    (withTurns [.loop] stopped).Sound ∧ stopped.drv.exitCause ≠ .none ∧
    ∃ t, step (withTurns [.loop] stopped) = .next t ∧ sameInstance (withTurns [.loop] stopped) t :=
  ⟨stopped_sound, by decide, ⟨_, rfl, by decide⟩⟩

theorem witness_StoppedInstanceIsFinal :
    (calling (.ctrl 2 (some 5)) stopped).Sound ∧ (calling (.ctrl 2 (some 5)) stopped).drv.phase = .stopped ∧
    ∃ t, step (calling (.ctrl 2 (some 5)) stopped) = .next t ∧
      sameInstance (calling (.ctrl 2 (some 5)) stopped) t :=
  ⟨stopped_sound, by decide, ⟨_, rfl, by decide⟩⟩

theorem witness_RetiredInstancesNeverChange :
    (nextOf (step { calling (.ctrl 0 none) stopped with
      inputs := { (calling (.ctrl 0 none) stopped).inputs with opens := [.deviceNotFound] } })).map
        State.retired = some [stopped.drv] := by decide

theorem witness_TransmitsConfigureAndGetUpdateOnly :
    ∃ t, step (withTurns [.loop] (withDrv (drvAt .write))) = .next t := ⟨_, rfl⟩

theorem witness_StuckLoopHangsForEver :
    ((inTransfer .write true [.never] []).drv.stuck = false ∧
      (inTransfer .write true [.never] []).drv.inFlight = true ∧
      (inTransfer .write true [.never] []).writeAnswer = .never) ∧
    ((inTransfer .read true [] [.never]).drv.stuck = false ∧
      (inTransfer .read true [] [.never]).drv.inFlight = true ∧
      (inTransfer .read true [] [.never]).readAnswer = .never) ∧
    ((delivering (.ref 1) true [.rotate 5] [.never]).drv.stuck = false ∧
      (delivering (.ref 1) true [.rotate 5] [.never]).drv.phase = .decode ∧
      (delivering (.ref 1) true [.rotate 5] [.never]).drv.rx = none ∧
      (delivering (.ref 1) true [.rotate 5] [.never]).drv.pending ≠ [] ∧
      (delivering (.ref 1) true [.rotate 5] [.never]).hookAnswer = .never) ∧
    (withTurns [.loop] (withDrv { drvAt .read with inFlight := true, stuck := true })).drv.stuck = true ∧
    ∃ t, Host.Core.run Sys2Proof.core 1
      (withTurns [.loop] (withDrv { drvAt .read with inFlight := true, stuck := true })) = .next t :=
  ⟨by decide, by decide, by decide, by decide, ⟨_, rfl⟩⟩

theorem witness_EmbedderReadsNoDeviceState :
    embedderMay (.ctrlSetSink 5) = true ∧ (calling (.ctrl 5 none) State.reset).nextTurn = .call := by decide

/-- The state after reset with the sink the reference 1, a response, and every input of one iteration. -/
def iterating (rpt : Report) : State :=
  { withDrv { State.reset.drv with sink := .ref 1 } with
    inputs :=
      { State.reset.inputs with
        turns := List.replicate 11 .loop
        writes := [.ok]
        reads := [.buffer rpt.bytes]
        hooks := List.replicate 3 .ok
        orders := [.buttonRockerRotate] } }

/-- The state after some steps answers as an iteration with this response needs. -/
def answersAfter (rpt : Report) (k : Nat) : Bool :=
  match nextOf (Host.Core.run Sys2Proof.core k (iterating rpt)) with
  | some u => decide (u.answers rpt)
  | none => true

theorem answers_of_answersAfter {rpt : Report} {k : Nat} {u : State} (h : answersAfter rpt k = true)
    (hr : Host.Core.run Sys2Proof.core k (iterating rpt) = .next u) : u.answers rpt := by
  unfold answersAfter at h
  rw [hr] at h
  exact of_decide_eq_true h

/-- V1, with its three events. -/
theorem witness_IterationCompletes :
    (iterating v1).Sound ∧ (iterating v1).runsIn .top ∧ (iterating v1).drv.keepRunning = true ∧
    (v1.b0 = 0x75 → withinWidth (iterating v1).posBits ((iterating v1).drv.pos + wireDelta v1)) ∧
    (responseEvents (iterating v1).drv.pos (iterating v1).drv.rockerLast v1).length = 3 ∧
    ∀ (k : Nat) (u : State), k < 8 + 3 →
      Host.Core.run Sys2Proof.core k (iterating v1) = .next u → u.answers v1 :=
  ⟨⟨⟨by decide, by decide⟩, by intro d hd; cases hd⟩, by decide, by decide,
    (by intro _ n h; cases h), by decide,
    fun k _ hk hr => answers_of_answersAfter
      ((by decide : ∀ k < 8 + 3, answersAfter v1 k = true) k hk) hr⟩

/-- V6, a mismatched response, without an event. -/
theorem witness_IterationCompletes_mismatch :
    (iterating v6).Sound ∧ (iterating v6).runsIn .top ∧ (iterating v6).drv.keepRunning = true ∧
    v6.b0 ≠ 0x75 ∧
    (responseEvents (iterating v6).drv.pos (iterating v6).drv.rockerLast v6).length = 0 ∧
    ∀ (k : Nat) (u : State), k < 8 + 0 →
      Host.Core.run Sys2Proof.core k (iterating v6) = .next u → u.answers v6 :=
  ⟨⟨⟨by decide, by decide⟩, by intro d hd; cases hd⟩, by decide, by decide, by decide, by decide,
    fun k _ hk hr => answers_of_answersAfter
      ((by decide : ∀ k < 8 + 0, answersAfter v6 k = true) k hk) hr⟩

theorem witness_StatusShowsRunStateAndCause :
    (fresh [] []).status = none ∧ State.reset.status = some (.running, .none) ∧
    stopped.status = some (.stopped, .stopRequested) ∧ State.reset.Sound :=
  ⟨by decide, by decide, by decide, reset_sound⟩

end Sys2Proof.Tests
end

section
/-! The report as a little-endian word (spec/00_scope.md R8): W has the bytes of the report as its digits
to base 2^8, and its bound, its bytes and the report read back are facts about digits. -/

namespace Sys2Proof

/-- The bytes of the report are the base 2^8 digits of W, byte 0 the least significant (R8). -/
theorem Report.word_eq_ofDigits (r : Report) :
    r.word = Nat.ofDigits (2 ^ 8) (r.bytes.map BitVec.toNat) := by
  simp only [Report.word, Report.bytes, List.map_cons, List.map_nil, Nat.ofDigits_cons,
    Nat.ofDigits_nil]
  ring

theorem Report.bytes_digit_lt (r : Report) : ∀ d ∈ r.bytes.map BitVec.toNat, d < 2 ^ 8 :=
  List.forall_mem_map.2 fun b _ => b.isLt

theorem Report.word_lt (r : Report) : r.word < 2 ^ 64 := by
  rw [r.word_eq_ofDigits]
  calc Nat.ofDigits (2 ^ 8) (r.bytes.map BitVec.toNat)
      < (2 ^ 8) ^ (r.bytes.map BitVec.toNat).length :=
        Nat.ofDigits_lt_base_pow_length (by decide) r.bytes_digit_lt
    _ = 2 ^ 64 := by simp [Report.bytes]

/-- Bits 8 i + 7 down to 8 i of W are byte i; beyond the report they are zero (R8). -/
theorem Report.word_byte (r : Report) (i : Nat) :
    r.word / 2 ^ (8 * i) % 2 ^ 8 = (r.bytes.getD i 0).toNat := by
  rw [r.word_eq_ofDigits, pow_mul,
    Nat.ofDigits_div_pow_eq_ofDigits_drop i (by decide) _ r.bytes_digit_lt,
    Nat.ofDigits_mod_eq_head!, List.head!_eq_head?_getD, List.head?_drop, List.getElem?_map,
    List.getD_eq_getElem?_getD]
  cases r.bytes[i]? with
  | none => rfl
  | some b => exact Nat.mod_eq_of_lt b.isLt

/-- Byte i of the report is read back from W (R8). -/
theorem Report.ofNat_word_byte (r : Report) (i : Nat) :
    BitVec.ofNat 8 (r.word / 2 ^ (8 * i)) = r.bytes.getD i 0 :=
  BitVec.eq_of_toNat_eq (by rw [BitVec.toNat_ofNat, r.word_byte])

@[simp] theorem Report.ofWord_word (r : Report) : Report.ofWord r.word = r := by
  have h0 : BitVec.ofNat 8 r.word = r.b0 := by simpa [Report.bytes] using r.ofNat_word_byte 0
  exact (Report.mk.injEq ..).mpr ⟨h0, r.ofNat_word_byte 1, r.ofNat_word_byte 2, r.ofNat_word_byte 3,
    r.ofNat_word_byte 4, r.ofNat_word_byte 5, r.ofNat_word_byte 6, r.ofNat_word_byte 7⟩

/-- Settles O6: W has the report's bytes as its digits to base 2^8. -/
theorem reportWordIsLittleEndian : Obligations.ReportWordIsLittleEndian :=
  fun rpt => ⟨rpt.word_lt, rpt.ofWord_word, fun i => rpt.word_byte i⟩

end Sys2Proof
end

section
/-! One step, by whose turn it is (spec/00_scope.md R12, R13): an equation for each turn, and for each
thing the agent of that turn can find to do. -/

namespace Sys2Proof.Machine

/-! ## Taking the turn leaves in place what the agents look at -/

@[simp] theorem State.tookTurn_openBlocked (s : State) : s.tookTurn.openBlocked = s.openBlocked := rfl
@[simp] theorem State.tookTurn_due (s : State) : s.tookTurn.due = s.due := rfl
@[simp] theorem State.tookTurn_loopMoves (s : State) : s.tookTurn.loopMoves = s.loopMoves := rfl

/-! ## The step of each turn -/

theorem step_of_call {s : State} (h : s.nextTurn = .call) : step s = callStep s.tookTurn := by
  rw [step, h]

theorem step_of_loop {s : State} (h : s.nextTurn = .loop) : step s = loopStep s.tookTurn := by
  rw [step, h]

theorem step_of_failure {s : State} (h : s.nextTurn = .failure) :
    step s = .next (failLoop s.tookTurn) := by
  rw [step, h]

/-! ## The embedder's turn -/

/-- A call that decodes to an operation of the embedder's context is that operation (R13, R66). -/
theorem State.fetchCall_of_decode {s : State} {i : Instr}
    (hd : decode s.drv.expectedOp s.nextCall = .ok i) (hi : embedderMay i = true) :
    s.fetchCall = .ok i := by
  simp [State.fetchCall, hd, hi]

theorem callStep_of_fetchCall {s : State} {i : Instr} (hb : s.openBlocked = false)
    (hf : s.fetchCall = .ok i) : callStep s = exec i s.tookCall := by
  simp [callStep, hb, hf]

theorem callStep_of_openBlocked {s : State} (hb : s.openBlocked = true) : callStep s = .next s :=
  if_pos hb

/-! ## The sequencer's turn, and a failure's -/

theorem loopStep_of_due {s : State} {i : Instr} (hd : s.due = some i) : loopStep s = exec i s := by
  rw [loopStep, hd]

theorem loopStep_of_due_none {s : State} (hd : s.due = none) : loopStep s = .next s := by
  rw [loopStep, hd]

theorem failLoop_of_not_loopMoves {s : State} (hm : s.loopMoves = false) : failLoop s = s := by
  simp [failLoop, hm]

/-! ## The two statements -/

/-- Settles O42: on each turn, the equation of the step and of what its agent does. -/
theorem stepRunsTheDecodedOperation : Obligations.StepRunsTheDecodedOperation := by
  intro s i
  constructor
  · intro ht hb hd hi
    rw [step_of_call ht]
    exact callStep_of_fetchCall hb (State.fetchCall_of_decode hd hi)
  · intro ht hd
    rw [step_of_loop ht]
    exact loopStep_of_due hd

/-- Settles O43: an agent with nothing to do leaves the state the turn was taken in. -/
theorem stepIdlesWithoutWork : Obligations.StepIdlesWithoutWork := by
  intro s
  refine ⟨fun ht hd => ?loop, fun ht hm => ?failure, fun ht hb => ?call⟩
  case loop =>
    rw [step_of_loop ht]
    exact loopStep_of_due_none hd
  case failure =>
    rw [step_of_failure ht, failLoop_of_not_loopMoves (s.tookTurn_loopMoves.trans hm)]
  case call =>
    rw [step_of_call ht]
    exact callStep_of_openBlocked hb

end Sys2Proof.Machine
end

section
/-! What a sound state is, in the shape the proofs use it (spec/10_state.md R24 to R31), and that every
step keeps it: one lemma per kind of update, then one case per move. -/

namespace Sys2Proof.Machine

/-! ## A sound driver -/

/-- The life of a driver while its loop runs: the handle is open and was never closed, no cause is
recorded, and the configuration is what CTRL.OPEN set (R24, R26, R28, R29). -/
def Driver.InService (d : Driver) : Prop :=
  d.handleOpen = true ∧ d.closeCount = 0 ∧ d.exitCause = .none ∧
    d.mute = 1 ∧ d.scale = 0 ∧ d.expectedOp = 0x75

theorem Driver.soundLife_iff_inService {d : Driver} (hn : d.phase ≠ .none) (hs : d.phase ≠ .stopped) :
    d.SoundLife ↔ d.InService := by
  simp [Driver.SoundLife, Driver.InService, hn, hs, and_assoc]

theorem Driver.Sound.inService {d : Driver} (h : d.Sound) (hn : d.phase ≠ .none)
    (hs : d.phase ≠ .stopped) : d.InService :=
  (Driver.soundLife_iff_inService hn hs).1 h.1

theorem Driver.InService.sound {d : Driver} (h : d.InService) (hn : d.phase ≠ .none)
    (hs : d.phase ≠ .stopped) (hw : d.SoundWork) : d.Sound :=
  ⟨(Driver.soundLife_iff_inService hn hs).2 h, hw⟩

theorem Driver.Sound.rx_eq_none {d : Driver} (h : d.Sound) (hp : d.phase ≠ .decode) : d.rx = none := by
  obtain ⟨-, -, hr, -, -⟩ := h
  exact not_not.1 fun hx => hp (hr hx).1

theorem Driver.Sound.pending_eq_nil {d : Driver} (h : d.Sound) (hp : d.phase ≠ .decode) :
    d.pending = [] := by
  obtain ⟨-, -, -, hq, -⟩ := h
  exact not_not.1 fun hx => hp (hq hx)

theorem Driver.Sound.inFlight_eq_false {d : Driver} (h : d.Sound) (hp : d.phase = .decode) :
    d.inFlight = false := by
  obtain ⟨-, hf, -, -, -⟩ := h
  simpa [hp] using hf

theorem Driver.Sound.closeCount_le_one {d : Driver} (h : d.Sound) : d.closeCount ≤ 1 := by
  obtain ⟨⟨hnone, hstop, hrun, -, -⟩, -⟩ := h
  by_cases hn : d.phase = .none
  · exact (hnone hn).2.2.1
  · by_cases hs : d.phase = .stopped
    · exact (hstop hs).2.1.le
    · exact (hrun hn hs).2.le.trans (Nat.zero_le 1)

theorem Driver.Sound.closed_of_stopped {d : Driver} (h : d.Sound) (hp : d.phase = .stopped) :
    d.closeCount = 1 ∧ d.handleOpen = false := by
  obtain ⟨⟨-, hstop, -, -, -⟩, -⟩ := h
  obtain ⟨ho, hc, -, -, -⟩ := hstop hp
  exact ⟨hc, ho⟩

theorem Driver.Sound.exitCause_eq_none {d : Driver} (h : d.Sound) (hp : d.phase ≠ .stopped) :
    d.exitCause = .none := by
  obtain ⟨⟨-, -, -, hx, -⟩, -⟩ := h
  exact hx hp

theorem Driver.Sound.exitCause_ne_none {d : Driver} (h : d.Sound) (hp : d.phase = .stopped) :
    d.exitCause ≠ .none := by
  obtain ⟨⟨-, hstop, -, -, -⟩, -⟩ := h
  obtain ⟨-, -, hx, -, -⟩ := hstop hp
  exact hx

/-- Without a driver a transfer is in flight in a blocked open alone (R170, R251). -/
theorem Driver.Sound.inFlight_eq_stuck {d : Driver} (h : d.Sound) (hp : d.phase = .none) :
    d.inFlight = d.stuck := by
  obtain ⟨⟨hnone, -, -, -, -⟩, -⟩ := h
  exact (hnone hp).2.1

/-- Without a driver a handle is held by an open that blocks in its configure write alone (R170). -/
theorem Driver.sound_unopened {d : Driver} (hp : d.phase = .none) (ho : d.handleOpen = d.stuck)
    (hf : d.inFlight = d.stuck) (hc : d.closeCount ≤ 1) (hc0 : d.handleOpen = true → d.closeCount = 0)
    (hx : d.exitCause = .none) (hr : d.rx = none) (hq : d.pending = []) : d.Sound := by
  simp_all [Driver.Sound, Driver.SoundLife, Driver.SoundWork]

theorem Driver.absent_sound : Driver.absent.Sound := ⟨by decide, by decide⟩

/-! ## What may be in progress in each phase of a running loop -/

/-- Nothing is in progress, in any phase of the loop. -/
theorem Driver.InService.sound_idle {d : Driver} (h : d.InService) (hn : d.phase ≠ .none)
    (hs : d.phase ≠ .stopped) (hf : d.inFlight = false) (hst : d.stuck = false) (hr : d.rx = none)
    (hq : d.pending = []) : d.Sound :=
  h.sound hn hs (by simp [Driver.SoundWork, hf, hst, hr, hq])

/-- A transfer is in flight in WRITE or READ, and may block there for ever (R49, R251). -/
theorem Driver.InService.sound_transfer {d : Driver} (h : d.InService)
    (hp : d.phase = .write ∨ d.phase = .read) (hf : d.inFlight = true) (hr : d.rx = none)
    (hq : d.pending = []) : d.Sound := by
  refine h.sound ?_ ?_ ?_
  · rintro hn; simp [hn] at hp
  · rintro hn; simp [hn] at hp
  · obtain hp | hp := hp <;> simp [Driver.SoundWork, hp, hf, hr, hq]

/-- A response waits for its parse in DECODE (R175). -/
theorem Driver.InService.sound_received {d : Driver} (h : d.InService) (hp : d.phase = .decode)
    (hf : d.inFlight = false) (hst : d.stuck = false) (hq : d.pending = []) : d.Sound :=
  h.sound (by simp [hp]) (by simp [hp]) (by simp [Driver.SoundWork, hp, hf, hst, hq])

/-- Events wait for their delivery in DECODE, and a hook that takes one may block (R176, R254). -/
theorem Driver.InService.sound_delivering {d : Driver} (h : d.InService) (hp : d.phase = .decode)
    (hf : d.inFlight = false) (hr : d.rx = none) (hst : d.stuck = false ∨ d.pending ≠ []) : d.Sound :=
  h.sound (by simp [hp]) (by simp [hp])
    (by simpa [Driver.SoundWork, hp, hf, hr, or_iff_not_imp_left] using hst)

/-- The loop exit closes the handle once and records its cause (R203). -/
theorem loopExit_sound {c : ExitCause} {s : State} (h : s.drv.InService) (hst : s.drv.stuck = false)
    (hc : c ≠ .none) : (loopExit c s).drv.Sound := by
  obtain ⟨ho, hcc, -, hm, hk, he⟩ := h
  rw [loopExit_drv]
  simp [Driver.Sound, Driver.SoundLife, Driver.SoundWork, *]

theorem raiseInLoop_sound {f : LoopFailure} {s : State} (h : s.drv.InService)
    (hst : s.drv.stuck = false) : (raiseInLoop f s).drv.Sound :=
  loopExit_sound h hst (exitCauseOf_classify_ne_none f s.drv.keepRunning)

/-! ## The sequencer's moves -/

/-- The sequencer moves only where a loop runs (R181). -/
theorem LoopMove.phase_runs {s t : State} (hm : LoopMove s t) :
    s.drv.phase ≠ .none ∧ s.drv.phase ≠ .stopped := by
  cases hm with
  | blocked hs hp hq => exact ⟨hp, hq⟩
  | _ => simp [*]

theorem LoopMove.sound {s t : State} (hm : LoopMove s t) (h : s.drv.Sound) : t.drv.Sound := by
  obtain ⟨hn, hstop⟩ := hm.phase_runs
  have hv : s.drv.InService := h.inService hn hstop
  have hrx := h.rx_eq_none
  have hpe := h.pending_eq_nil
  have hfl := h.inFlight_eq_false
  cases hm with
  | blocked hs hp hq => exact h
  | toWrite hs hp hk | writeOk hs hp hf ha | wake hs hp =>
    exact Driver.InService.sound_idle hv (by simp [setPhase]) (by simp [setPhase]) rfl hs
      (hrx (by simp [hp])) (hpe (by simp [hp]))
  | toSleep hs hp hr hq =>
    exact Driver.InService.sound_idle hv (by simp [setPhase]) (by simp [setPhase]) rfl hs hr hq
  | exit hs hp hk => exact loopExit_sound hv hs (by simp)
  | writeFailed hs hp hf ha | readLength bytes hs hp hf ha hb | readFailed hs hp hf ha =>
    exact raiseInLoop_sound hv hs
  | hookFailed e es k hs hp hr hq hk ha => exact raiseInLoop_sound hv hs
  | writeCall hs hp hf =>
    obtain ⟨ho, hc, hx, hmu, hsc, -⟩ := hv
    exact Driver.InService.sound_transfer ⟨ho, hc, hx, hmu, hsc, rfl⟩ (.inl hp) rfl
      (hrx (by simp [hp])) (hpe (by simp [hp]))
  | readCall hs hp hf =>
    exact Driver.InService.sound_transfer hv (.inr hp) rfl (hrx (by simp [hp])) (hpe (by simp [hp]))
  | writeHangs hs hp hf ha =>
    exact Driver.InService.sound_transfer hv (.inl hp) hf (hrx (by simp [hp])) (hpe (by simp [hp]))
  | readHangs hs hp hf ha =>
    exact Driver.InService.sound_transfer hv (.inr hp) hf (hrx (by simp [hp])) (hpe (by simp [hp]))
  | readOk bytes rpt hs hp hf ha hb =>
    exact Driver.InService.sound_received hv rfl rfl hs (hpe (by simp [hp]))
  | update rpt newPos hs hp hr hb he ha | mismatch rpt hs hp hr hb | opaqueId rpt hs hp hr hb he =>
    exact Driver.InService.sound_delivering hv hp (hfl hp) rfl (.inl hs)
  | discarded e es hs hp hr hq hk | received e es k hs hp hr hq hk ha =>
    exact Driver.InService.sound_delivering hv hp (hfl hp) hr (.inl hs)
  | hookHangs e es k hs hp hr hq hk ha =>
    exact Driver.InService.sound_delivering hv hp (hfl hp) hr (.inr (by simp [blockForever, hq]))

@[simp] theorem raiseInLoop_retired (f : LoopFailure) (s : State) :
    (raiseInLoop f s).retired = s.retired :=
  loopExit_retired _ s

@[simp] theorem raiseInLoop_landed (f : LoopFailure) (s : State) :
    raiseInLoop f s.landed = raiseInLoop f s :=
  loopExit_landed _ s

theorem LoopMove.retired {s t : State} (hm : LoopMove s t) : t.retired = s.retired := by
  cases hm with
  | exit | writeFailed | readLength | readFailed | hookFailed => simp
  | _ => rfl

/-! ## The embedder's moves -/

theorem OpenMove.retired {sink : Option SinkRef} {s t : State} (hm : OpenMove sink s t) :
    t.retired = s.retired := by
  cases hm <;> rfl

theorem OpenMove.sound {sink : Option SinkRef} {s t : State} (hm : OpenMove sink s t)
    (h : s.drv.Sound) (hp : s.drv.phase = .none) (hst : s.drv.stuck = false) : t.drv.Sound := by
  have hx : s.drv.exitCause = .none := h.exitCause_eq_none (by simp [hp])
  have hf : s.drv.inFlight = s.drv.stuck := h.inFlight_eq_stuck hp
  have hr : s.drv.rx = none := h.rx_eq_none (by simp [hp])
  have hq : s.drv.pending = [] := h.pending_eq_nil (by simp [hp])
  cases hm with
  | notFound ha => exact h
  | opened k ha hw =>
    exact Driver.InService.sound_idle ⟨rfl, rfl, rfl, rfl, rfl, rfl⟩ (by simp) (by simp) rfl rfl rfl rfl
  | initFailed k ha hw =>
    exact Driver.sound_unopened hp hst.symm hf (by simp [acquireHandle]) (by simp) hx hr hq
  | hangs k ha hw =>
    exact Driver.sound_unopened hp rfl rfl (by simp [acquireHandle]) (fun _ => rfl) hx hr hq

theorem CallMove.sound {s t : State} (hm : CallMove s t) (h : s.Sound) : t.Sound := by
  obtain ⟨hd, hret⟩ := h
  cases hm with
  | returned rpt => exact ⟨hd, hret⟩
  | refused why => exact ⟨hd, hret⟩
  | openFresh sink t hp hs hm => exact ⟨hm.sound hd hp hs, hm.retired ▸ hret⟩
  | openAgain sink t hp hm =>
    refine ⟨hm.sound Driver.absent_sound rfl rfl, ?_⟩
    rw [hm.retired]
    exact List.forall_mem_cons.2 ⟨⟨hp, hd⟩, hret⟩
  | closed hp hg => exact ⟨hd, hret⟩
  | tornDown hp ho => simp [(hd.closed_of_stopped hp).2] at ho
  | sinkSet k hp => exact ⟨hd, hret⟩

/-! ## Every step, and every run -/

theorem StepMove.sound {s t : State} (hm : StepMove s t) (h : s.Sound) : t.Sound := by
  obtain ⟨hd, hret⟩ := h
  cases hm with
  | idle => exact ⟨hd, hret⟩
  | loop t hm => exact ⟨hm.sound hd, hm.retired ▸ hret⟩
  | failure hl =>
    obtain ⟨hst, hn, hs⟩ := (loopMoves_iff s).1 hl
    rw [raiseInLoop_landed]
    exact ⟨raiseInLoop_sound (hd.inService hn hs) hst, raiseInLoop_retired _ s ▸ hret⟩
  | call t hb hm => exact hm.sound ⟨hd, hret⟩

/-- Settles O46: each move of a step keeps the driver sound, and an open puts aside a stopped one. -/
theorem stepKeepsSound : Obligations.StepKeepsSound :=
  fun s _ hs h => (step_move h).sound (s := s.tookTurn) hs

/-- Settles O49: a sound driver has closed its handle at most once, and every run keeps it sound. -/
theorem handleClosedExactlyOnce : Obligations.HandleClosedExactlyOnce := by
  intro s n t hs hr d hd
  obtain ⟨hdrv, hret⟩ := run_keeps stepKeepsSound n s t hs hr
  have hsound : d.Sound := by
    obtain rfl | hd := List.mem_cons.1 hd
    · exact hdrv
    · exact (hret d hd).2
  exact ⟨hsound.closeCount_le_one, hsound.closed_of_stopped⟩

end Sys2Proof.Machine
end

section
/-! What a step does to the elements of the driver it finds (spec/10_state.md R25, R27, R28, R35):
the frame of each kind of move, and from the frames the statements about every step. -/

namespace Sys2Proof.Machine

/-! ## The frame of the loop exit (R203) -/

@[simp] theorem loopExit_phase (c : ExitCause) (s : State) : (loopExit c s).drv.phase = .stopped := rfl
@[simp] theorem loopExit_pos (c : ExitCause) (s : State) : (loopExit c s).drv.pos = s.drv.pos := by
  rw [loopExit_drv]
@[simp] theorem loopExit_rockerLast (c : ExitCause) (s : State) :
    (loopExit c s).drv.rockerLast = s.drv.rockerLast := by
  rw [loopExit_drv]
@[simp] theorem loopExit_keepRunning (c : ExitCause) (s : State) :
    (loopExit c s).drv.keepRunning = s.drv.keepRunning := by
  rw [loopExit_drv]

@[simp] theorem raiseInLoop_phase (f : LoopFailure) (s : State) :
    (raiseInLoop f s).drv.phase = .stopped := rfl
@[simp] theorem raiseInLoop_pos (f : LoopFailure) (s : State) :
    (raiseInLoop f s).drv.pos = s.drv.pos :=
  loopExit_pos _ s
@[simp] theorem raiseInLoop_rockerLast (f : LoopFailure) (s : State) :
    (raiseInLoop f s).drv.rockerLast = s.drv.rockerLast :=
  loopExit_rockerLast _ s
@[simp] theorem raiseInLoop_keepRunning (f : LoopFailure) (s : State) :
    (raiseInLoop f s).drv.keepRunning = s.drv.keepRunning :=
  loopExit_keepRunning _ s

/-! ## The phase moves (R27, R181) -/

@[simp] theorem phaseMove_self (p : Phase) : phaseMove p p = true := by
  cases p <;> rfl

theorem phaseMove_stopped {p : Phase} (hp : p ≠ .none) : phaseMove p .stopped = true := by
  cases p <;> simp [phaseMove] at hp ⊢

theorem phaseMove_ne_none {p q : Phase} (h : phaseMove p q = true) (hp : p ≠ .none) : q ≠ .none := by
  rintro rfl
  cases p <;> simp [phaseMove] at h hp

/-! ## The sequencer's moves within a driver -/

theorem LoopMove.keepRunning {s t : State} (hm : LoopMove s t) :
    t.drv.keepRunning = s.drv.keepRunning := by
  cases hm with
  | exit | writeFailed | readLength | readFailed | hookFailed => simp
  | _ => rfl

theorem LoopMove.phaseMove {s t : State} (hm : LoopMove s t) :
    phaseMove s.drv.phase t.drv.phase = true := by
  have hn := hm.phase_runs.1
  cases hm with
  | exit | writeFailed | readLength | readFailed | hookFailed => exact phaseMove_stopped hn
  | toWrite hs hp | writeOk hs hp | readOk _ _ hs hp | toSleep hs hp | wake hs hp => rw [hp]; rfl
  | _ => exact phaseMove_self _

/-- RSP.UPDATE is the one move of the sequencer that writes POS or ROCKER_LAST (R131). -/
theorem LoopMove.device {s t : State} (hm : LoopMove s t) :
    (t.drv.pos = s.drv.pos ∧ t.drv.rockerLast = s.drv.rockerLast) ∨
      ∃ rpt newPos, accumulate s.posBits s.drv.pos rpt.delta = some newPos ∧
        t = afterUpdate rpt newPos s := by
  cases hm with
  | update rpt newPos hs hp hr hb he ha => exact .inr ⟨rpt, newPos, ha, rfl⟩
  | exit | writeFailed | readLength | readFailed | hookFailed => exact .inl (by simp)
  | _ => exact .inl ⟨rfl, rfl⟩

/-! ## The embedder's moves within a driver -/

theorem CallMove.within {s t : State} (hm : CallMove s t) (hi : sameInstance s t) :
    t.drv = s.drv ∨ t.drv = { s.drv with keepRunning := false } ∨
      (∃ k, t.drv = { s.drv with sink := .ref k }) ∨
      (s.drv.phase = .stopped ∧ s.drv.handleOpen = true ∧
        t.drv = { s.drv with
          keepRunning := false, handleOpen := false, closeCount := s.drv.closeCount + 1 }) := by
  obtain ⟨hn, hr⟩ := hi
  cases hm with
  | returned rpt => exact .inl rfl
  | refused why => exact .inl rfl
  | openFresh sink t hp hs hm => exact absurd hp hn
  | openAgain sink t hp hm => simp [hm.retired] at hr
  | closed hp hg => exact .inr (.inl rfl)
  | tornDown hp ho => exact .inr (.inr (.inr ⟨hp, ho, rfl⟩))
  | sinkSet k hp => exact .inr (.inr (.inl ⟨k, rfl⟩))

/-- A call of the embedder writes of the driver KEEP_RUNNING, SINK and, in the guarded teardown, the
handle's elements (R33, R35 (e)). -/
theorem CallMove.frame {s t : State} (hm : CallMove s t) (hi : sameInstance s t) :
    t.drv.pos = s.drv.pos ∧ t.drv.rockerLast = s.drv.rockerLast ∧ t.drv.phase = s.drv.phase ∧
      t.drv.exitCause = s.drv.exitCause ∧
      (t.drv.keepRunning = s.drv.keepRunning ∨ t.drv.keepRunning = false) := by
  obtain h | h | ⟨k, h⟩ | ⟨-, -, h⟩ := hm.within hi <;> simp [h]

/-! ## One step within a driver -/

theorem StepMove.phaseMove {s t : State} (hm : StepMove s t) (hi : sameInstance s t) :
    phaseMove s.drv.phase t.drv.phase = true := by
  cases hm with
  | idle => exact phaseMove_self _
  | loop t hm => exact hm.phaseMove
  | failure hl => exact phaseMove_stopped hi.1
  | call t hb hm =>
    obtain ⟨-, -, hp, -, -⟩ := hm.frame hi
    rw [hp]; exact phaseMove_self _

/-- Settles O52: by the kind of move. -/
theorem phaseMovesAlongTheLoop : Obligations.PhaseMovesAlongTheLoop :=
  fun s _ h hi => (step_move h).phaseMove (s := s.tookTurn) hi

/-- A recorded cause is final: only a stopped driver has one, and there only the embedder moves. -/
theorem StepMove.exitCause {s t : State} (hm : StepMove s t) (hi : sameInstance s t)
    (hp : s.drv.phase = .stopped) : t.drv.exitCause = s.drv.exitCause := by
  cases hm with
  | idle => rfl
  | loop t hm => exact absurd hp hm.phase_runs.2
  | failure hl => exact absurd hp ((loopMoves_iff s).1 hl).2.2
  | call t hb hm =>
    obtain ⟨-, -, -, hx, -⟩ := hm.frame hi
    exact hx

/-- Settles O53: NONE and the causes are soundness of the next state; that a cause stays is
`StepMove.exitCause`, since only a stopped sound driver has one. -/
theorem exitCauseIsSetOnce : Obligations.ExitCauseIsSetOnce := by
  intro s t hs h hi
  have ht : t.drv.Sound := (stepKeepsSound s t hs h).1
  refine ⟨ht.exitCause_eq_none, ht.exitCause_ne_none, fun hx => ?_⟩
  have hp : s.drv.phase = .stopped := not_not.1 fun hp => hx (hs.1.exitCause_eq_none hp)
  exact (step_move h).exitCause (s := s.tookTurn) hi hp

/-! ## KEEP_RUNNING (R25) -/

/-- CTRL.OPEN never ends in the driver it began in: it needs a slot without one, or puts it aside. -/
theorem execCtrlOpen_not_sameInstance {sink : Option SinkRef} {s t : State}
    (h : execCtrlOpen sink s = .next t) : ¬ sameInstance s t := by
  rintro ⟨hn, hr⟩
  unfold execCtrlOpen at h
  split at h
  · exact hn (‹_ ∧ _›).1
  · split at h
    · cases h
      simp [(openDevice_move sink (s.setAside Driver.absent)).retired] at hr
    · cases h

theorem StepMove.keepRunning {s t : State} (hm : StepMove s t) (hi : sameInstance s t)
    (hk : s.drv.keepRunning = false) : t.drv.keepRunning = false := by
  cases hm with
  | idle => exact hk
  | loop t hm => exact hm.keepRunning.trans hk
  | failure hl => simpa using hk
  | call t hb hm =>
    obtain ⟨-, -, -, -, h | h⟩ := hm.frame hi
    · exact h.trans hk
    · exact h

@[simp] theorem returnReport_drv (r : Except RefuseReason Report) (s : State) :
    (returnReport r s).drv = s.drv := by
  cases r <;> rfl

theorem execCtrlSetSink_keepRunning {k : SinkRef} {s t : State} (h : execCtrlSetSink k s = .next t) :
    t.drv.keepRunning = s.drv.keepRunning := by
  unfold execCtrlSetSink at h
  split at h
  · cases h
  · cases h; rfl

/-- An operation other than CTRL.CLOSE and CTRL.OPEN leaves KEEP_RUNNING. -/
theorem exec_keepRunning {i : Instr} {s t : State} (h : exec i s = .next t) (hc : i ≠ .ctrlClose)
    (ho : ∀ k, i ≠ .ctrlOpen k) : t.drv.keepRunning = s.drv.keepRunning := by
  cases i with
  | cmdGetUpdate | cmdGetId | cmdReset | cmdConfigure | cmdLedAux | cmdBeep =>
    cases h; exact congrArg Driver.keepRunning (returnReport_drv _ s)
  | rspUpdate r => exact (execRspUpdate_move h).keepRunning
  | rspOpaque r => exact (execRspOpaque_move h).keepRunning
  | rspMismatch r => exact (execRspMismatch_move h).keepRunning
  | ctrlOpen k => exact absurd rfl (ho k)
  | ctrlClose => exact absurd rfl hc
  | ctrlSetSink k => exact execCtrlSetSink_keepRunning h
  | seqPoll => exact (execSeqPoll_move h).keepRunning
  | seqExit => exact (execSeqExit_move h).keepRunning

/-- Settles O51: every other operation within the driver leaves KEEP_RUNNING, and no move sets it. -/
theorem onlyCloseClearsKeepRunning : Obligations.OnlyCloseClearsKeepRunning := by
  refine ⟨fun i s t h hi hk hk' => ?_, fun s t h hi => (step_move h).keepRunning (s := s.tookTurn) hi⟩
  by_contra hc
  have ho : ∀ k, i ≠ .ctrlOpen k := by
    rintro k rfl
    exact execCtrlOpen_not_sameInstance h hi
  have hkeep := exec_keepRunning h hc ho
  simp [hk, hk'] at hkeep

/-! ## The events of a report (R132, R133, R142) -/

theorem filter_kind_filter_kind (evs : List Event) (k k' : EventKind) :
    (evs.filter (fun e => decide (e.kind = k'))).filter (fun e => decide (e.kind = k)) =
      if k' = k then evs.filter (fun e => decide (e.kind = k)) else [] := by
  split
  · subst k'; simp [List.filter_filter]
  · rename_i hk
    simp only [List.filter_filter, List.filter_eq_nil_iff, Bool.and_eq_true, decide_eq_true_eq]
    rintro e - ⟨he, he'⟩
    exact hk (he'.symm.trans he)

/-- Delivery order keeps the events of one kind as they are. -/
@[simp] theorem filter_kind_arrange (o : EventOrder) (evs : List Event) (k : EventKind) :
    (arrange o evs).filter (fun e => decide (e.kind = k)) =
      evs.filter (fun e => decide (e.kind = k)) := by
  simp only [arrange, List.filter_flatMap, filter_kind_filter_kind]
  cases o <;> cases k <;> simp [orderKinds]

theorem filter_rotate_updateEvents (last : BitVec 2) (newPos : Int) (rpt : Report) :
    (updateEvents last newPos rpt).filter (fun e => decide (e.kind = .rotate)) =
      rotateEvents rpt.delta newPos := by
  unfold updateEvents rotateEvents rockerEvents buttonEvents
  split_ifs <;> rfl

theorem filter_rocker_updateEvents (last : BitVec 2) (newPos : Int) (rpt : Report) :
    (updateEvents last newPos rpt).filter (fun e => decide (e.kind = .rocker)) =
      rockerEvents last rpt.rocker := by
  unfold updateEvents rotateEvents rockerEvents buttonEvents
  split_ifs <;> rfl

/-- POS changes by a delta that is not zero alone (R132). -/
theorem delta_ne_zero_of_accumulate {posBits : Option Nat} {pos delta newPos : Int}
    (h : accumulate posBits pos delta = some newPos) (hne : newPos ≠ pos) : delta ≠ 0 := by
  rintro rfl
  simp [accumulate] at h
  exact hne h.symm

/-- A new POS comes with its one rotate event (R132, R35 (a)). -/
theorem afterUpdate_rotate {rpt : Report} {newPos : Int} {s : State}
    (ha : accumulate s.posBits s.drv.pos rpt.delta = some newPos) (hne : newPos ≠ s.drv.pos) :
    (afterUpdate rpt newPos s).drv.pending.filter (fun e => decide (e.kind = .rotate)) =
      [.rotate newPos] := by
  simp [afterUpdate, filter_rotate_updateEvents, rotateEvents, delta_ne_zero_of_accumulate ha hne]

/-- A new ROCKER_LAST comes with its one rocker event (R133, R35 (b)). -/
theorem afterUpdate_rocker {rpt : Report} {newPos : Int} {s : State}
    (hne : (afterUpdate rpt newPos s).drv.rockerLast ≠ s.drv.rockerLast) :
    (afterUpdate rpt newPos s).drv.pending.filter (fun e => decide (e.kind = .rocker)) =
      [.rocker (afterUpdate rpt newPos s).drv.rockerLast] := by
  by_cases hr : rpt.rocker = s.drv.rockerLast
  · simp [afterUpdate, hr] at hne
  · simp [afterUpdate, filter_rocker_updateEvents, rockerEvents, hr]

/-! ## POS and ROCKER_LAST (R35) -/

/-- A step within a driver leaves POS and ROCKER_LAST, or is RSP.UPDATE's. -/
theorem StepMove.device {s t : State} (hm : StepMove s t) (hi : sameInstance s t) :
    (t.drv.pos = s.drv.pos ∧ t.drv.rockerLast = s.drv.rockerLast) ∨
      ∃ rpt newPos, accumulate s.posBits s.drv.pos rpt.delta = some newPos ∧
        t = afterUpdate rpt newPos s := by
  cases hm with
  | idle => exact .inl ⟨rfl, rfl⟩
  | loop t hm => exact hm.device
  | failure hl => exact .inl (by simp)
  | call t hb hm =>
    obtain ⟨hpos, hlast, -, -, -⟩ := hm.frame hi
    exact .inl ⟨hpos, hlast⟩

/-- On the embedder's turn the machine idles or makes a move of the embedder. -/
theorem callStep_move {s t : State} (h : callStep s = .next t) : t = s ∨ CallMove s.tookCall t := by
  unfold callStep at h
  split at h
  · cases h; exact .inl rfl
  · split at h
    · exact .inr (embedder_exec_move (fetchCall_embedder ‹_›) h)
    · cases h; exact .inr (.refused _)

/-- A call of the embedder leaves POS and ROCKER_LAST (R35 (e)). -/
theorem callStep_device {s t : State} (h : callStep s = .next t) (hi : sameInstance s t) :
    t.drv.pos = s.drv.pos ∧ t.drv.rockerLast = s.drv.rockerLast := by
  obtain rfl | hm := callStep_move h
  · exact ⟨rfl, rfl⟩
  · obtain ⟨hpos, hlast, -, -, -⟩ := hm.frame hi
    exact ⟨hpos, hlast⟩

/-- Two sound instances hold the same configuration, the one CTRL.OPEN set (R24). -/
theorem Driver.Sound.config_eq {d e : Driver} (hd : d.Sound) (he : e.Sound) (hdp : d.phase ≠ .none)
    (hep : e.phase ≠ .none) : e.mute = d.mute ∧ e.scale = d.scale := by
  obtain ⟨⟨-, -, -, -, hcd⟩, -⟩ := hd
  obtain ⟨⟨-, -, -, -, hce⟩, -⟩ := he
  obtain ⟨hmd, hsd, -⟩ := hcd hdp
  obtain ⟨hme, hse, -⟩ := hce hep
  exact ⟨hme.trans hmd.symm, hse.trans hsd.symm⟩

/-- Settles O50: POS and ROCKER_LAST by `StepMove.device`, the rest by soundness of the next state. -/
theorem deviceStateChangesWithItsEvent : Obligations.DeviceStateChangesWithItsEvent := by
  intro s t hs hi h
  have ht : t.drv.Sound := (stepKeepsSound s t hs h).1
  have hn : t.drv.phase ≠ .none := phaseMove_ne_none (phaseMovesAlongTheLoop s t h hi) hi.1
  obtain ⟨hmute, hscale⟩ := hs.1.config_eq ht hi.1 hn
  have hdev := (step_move h).device (s := s.tookTurn) hi
  refine ⟨fun hne => ?pos, fun hne => ?rocker, hmute, hscale, ht.closeCount_le_one, fun hc => ?call⟩
  case pos =>
    obtain ⟨hpos, -⟩ | ⟨rpt, newPos, ha, rfl⟩ := hdev
    · exact absurd hpos hne
    · exact afterUpdate_rotate ha hne
  case rocker =>
    obtain ⟨-, hlast⟩ | ⟨rpt, newPos, ha, rfl⟩ := hdev
    · exact absurd hlast hne
    · exact afterUpdate_rocker hne
  case call =>
    rw [step_of_call hc] at h
    exact callStep_device (s := s.tookTurn) h hi

end Sys2Proof.Machine
end

section
/-! What an operation does not read: the sink in RSP.UPDATE (spec/10_state.md R30), device state in the
embedder's calls (R33); and what shows of the driver: STATUS (R36), the fault where there is none (R34). -/

namespace Sys2Proof.Machine

/-! ## The sink (R30) -/

theorem parseUpdate_of_accumulate {rpt : Report} {newPos : Int} {s : State}
    (h : accumulate s.posBits s.drv.pos rpt.delta = some newPos) :
    parseUpdate rpt s = .next (afterUpdate rpt newPos s) := by
  rw [parseUpdate, h]

/-- Settles O23: what is due, the accumulator and the comparators read the state without its sink. -/
theorem sinkDoesNotChangeEvents : Obligations.SinkDoesNotChangeEvents := by
  intro s t rpt k h
  obtain ⟨hp, hd, ha⟩ := whenDue_next h
  obtain ⟨newPos, hacc, rfl⟩ := parseUpdate_next ha
  calc execRspUpdate rpt (s.setDrv { s.drv with sink := k })
      = parseUpdate rpt (s.setDrv { s.drv with sink := k }) := whenDue_due _ hp hd
    _ = .next (afterUpdate rpt newPos (s.setDrv { s.drv with sink := k })) :=
      parseUpdate_of_accumulate hacc

/-! ## No driver (R34) -/

theorem whenDue_of_none {i : Instr} {s : State} (a : Host.Outcome State Fault Refusal)
    (hp : s.drv.phase = .none) : whenDue i s a = .fault .noInstance :=
  if_pos hp

/-- Settles O32: each operation on a driver looks at PHASE first. -/
theorem noInstanceFaults : Obligations.NoInstanceFaults := by
  intro s i hp hc ho
  cases i with
  | cmdGetUpdate | cmdGetId | cmdReset | cmdConfigure | cmdLedAux | cmdBeep => simp [isCommand] at hc
  | rspUpdate | rspOpaque | rspMismatch | seqExit => exact whenDue_of_none _ hp
  | ctrlOpen k => exact absurd rfl (ho k)
  | ctrlClose | ctrlSetSink => exact if_pos hp
  | seqPoll => simp [exec, execSeqPoll, hp]

/-! ## STATUS (R36) -/

theorem State.status_of_none {s : State} (hp : s.drv.phase = .none) : s.status = none := by
  simp [State.status, hp]

theorem State.status_of_stopped {s : State} (hp : s.drv.phase = .stopped) :
    s.status = some (.stopped, s.drv.exitCause) := by
  simp [State.status, hp]

theorem State.status_of_running {s : State} (hn : s.drv.phase ≠ .none) (hs : s.drv.phase ≠ .stopped) :
    s.status = some (.running, s.drv.exitCause) := by
  cases hp : s.drv.phase with
  | none => exact absurd hp hn
  | stopped => exact absurd hp hs
  | top | write | read | decode | sleep => simp [State.status, hp]

/-- STATUS shows RUNNING for no stopped driver, and its cause is EXIT_CAUSE. -/
theorem State.status_running_inv {s : State} {c : ExitCause} (h : s.status = some (.running, c)) :
    s.drv.phase ≠ .stopped ∧ c = s.drv.exitCause := by
  cases hp : s.drv.phase with
  | none => simp [State.status, hp] at h
  | stopped => simp [State.status, hp] at h
  | top | write | read | decode | sleep =>
    simp only [State.status, hp, Option.some.injEq, Prod.mk.injEq, true_and] at h
    exact ⟨by simp, h.symm⟩

@[simp] theorem State.withDevice_status (s : State) (pos : Int) (last : BitVec 2) (mute : BitVec 1)
    (scale : BitVec 7) : (s.withDevice pos last mute scale).status = s.status :=
  rfl

/-- Settles O60: by PHASE; a sound driver that shows RUNNING has no cause. -/
theorem statusShowsRunStateAndCause : Obligations.StatusShowsRunStateAndCause := by
  intro s
  refine ⟨State.status_of_none, State.status_of_running, State.status_of_stopped,
    fun c hs h => ?_, s.withDevice_status⟩
  obtain ⟨hp, rfl⟩ := State.status_running_inv h
  exact hs.1.exitCause_eq_none hp

/-! ## The embedder's calls (R33) -/

/-- A command's answer is its report or its refusal, whatever else differs (R107). -/
theorem sameToEmbedder_returnReport (r : Except RefuseReason Report) {s u : State}
    (ht : s.trace = u.trace) (hm : s.refusalMark = u.refusalMark) (hst : s.status = u.status) :
    sameToEmbedder (.next (returnReport r s)) (.next (returnReport r u)) := by
  cases r with
  | ok rpt => exact ⟨rfl, ht, hm, hst⟩
  | error why => exact ⟨rfl, ht, rfl, hst⟩

/-- CTRL.OPEN on a slot without a driver reads nothing of it (R34, R170, R171). -/
theorem sameToEmbedder_openDevice (sink : Option SinkRef) {s u : State} (hs : s.drv.phase = .none)
    (hu : u.drv.phase = .none) (hi : s.inputs = u.inputs) (ht : s.trace = u.trace)
    (hm : s.refusalMark = u.refusalMark) (hr : s.ret = u.ret) :
    sameToEmbedder (.next (openDevice sink s)) (.next (openDevice sink u)) := by
  have ho : s.openAnswer = u.openAnswer := by simp [State.openAnswer, hi]
  have hw : ∀ h, (acquireHandle h s).writeAnswer = (acquireHandle h u).writeAnswer := fun h => by
    simp [State.writeAnswer, acquireHandle, hi]
  simp only [openDevice, ho]
  cases u.openAnswer with
  | deviceNotFound => simp [sameToEmbedder, ht, hm, State.status, hs, hu]
  | found h =>
    simp only [configureDevice, hw]
    cases (acquireHandle h u).writeAnswer with
    | ok => simp [sameToEmbedder, acquireHandle, ht, hm, State.status]
    | ioFailure | never => simp [sameToEmbedder, acquireHandle, ht, hm, hr, State.status, hs, hu]

/-- Two tests that agree lead to the same for the embedder if their branches do. -/
theorem sameToEmbedder_ite {p q : Prop} [Decidable p] [Decidable q]
    {a b a' b' : Host.Outcome State Fault Refusal} (hpq : p ↔ q)
    (ha : p → sameToEmbedder a a') (hb : ¬ p → sameToEmbedder b b') :
    sameToEmbedder (if p then a else b) (if q then a' else b') := by
  by_cases hp : p
  · rw [if_pos hp, if_pos (hpq.1 hp)]; exact ha hp
  · rw [if_neg hp, if_neg (hpq.not.1 hp)]; exact hb hp

/-- A call that is refused sets the mark and answers the reason (R206). -/
theorem callStep_of_refused {s : State} {why : RefuseReason} (hb : s.openBlocked = false)
    (hf : s.fetchCall = .error why) : callStep s = .next (refuse why s.tookCall) := by
  simp [callStep, hb, hf]

section
variable (s : State) (pos : Int) (last : BitVec 2) (mute : BitVec 1) (scale : BitVec 7)

theorem sameToEmbedder_execCtrlOpen (sink : Option SinkRef) :
    sameToEmbedder (execCtrlOpen sink s) (execCtrlOpen sink (s.withDevice pos last mute scale)) := by
  unfold execCtrlOpen
  refine sameToEmbedder_ite Iff.rfl (fun hf => ?fresh) (fun _ =>
    sameToEmbedder_ite Iff.rfl (fun _ => ?again) (fun _ => rfl))
  case fresh => exact sameToEmbedder_openDevice sink hf.1 hf.1 rfl rfl rfl rfl
  case again => exact sameToEmbedder_openDevice sink rfl rfl rfl rfl rfl rfl

theorem sameToEmbedder_execCtrlClose :
    sameToEmbedder (execCtrlClose s) (execCtrlClose (s.withDevice pos last mute scale)) := by
  unfold execCtrlClose
  refine sameToEmbedder_ite Iff.rfl (fun _ => rfl) (fun _ =>
    sameToEmbedder_ite Iff.rfl (fun _ => ?teardown) (fun _ => ⟨rfl, rfl, rfl, rfl⟩))
  case teardown => exact sameToEmbedder_ite Iff.rfl (fun _ => rfl) (fun _ => ⟨rfl, rfl, rfl, rfl⟩)

theorem sameToEmbedder_execCtrlSetSink (k : SinkRef) :
    sameToEmbedder (execCtrlSetSink k s) (execCtrlSetSink k (s.withDevice pos last mute scale)) :=
  sameToEmbedder_ite Iff.rfl (fun _ => rfl) (fun _ => ⟨rfl, rfl, rfl, rfl⟩)

theorem sameToEmbedder_exec {i : Instr} (hi : embedderMay i = true) :
    sameToEmbedder (exec i s) (exec i (s.withDevice pos last mute scale)) := by
  cases i with
  | cmdGetUpdate | cmdGetId | cmdReset | cmdConfigure | cmdLedAux | cmdBeep =>
    exact sameToEmbedder_returnReport _ rfl rfl rfl
  | ctrlOpen k => exact sameToEmbedder_execCtrlOpen s pos last mute scale k
  | ctrlClose => exact sameToEmbedder_execCtrlClose s pos last mute scale
  | ctrlSetSink k => exact sameToEmbedder_execCtrlSetSink s pos last mute scale k
  | rspUpdate | rspOpaque | rspMismatch | seqPoll | seqExit => simp [embedderMay] at hi

/-- Which call the embedder makes, and whether it can, does not depend on device state either. -/
theorem sameToEmbedder_callStep :
    sameToEmbedder (callStep s) (callStep (s.withDevice pos last mute scale)) := by
  cases hb : s.openBlocked with
  | true =>
    rw [callStep_of_openBlocked hb,
      callStep_of_openBlocked (s := s.withDevice pos last mute scale) hb]
    exact ⟨rfl, rfl, rfl, rfl⟩
  | false =>
    cases hf : s.fetchCall with
    | ok i =>
      rw [callStep_of_fetchCall hb hf,
        callStep_of_fetchCall (s := s.withDevice pos last mute scale) hb hf]
      exact sameToEmbedder_exec s.tookCall pos last mute scale (fetchCall_embedder hf)
    | error why =>
      rw [callStep_of_refused hb hf,
        callStep_of_refused (s := s.withDevice pos last mute scale) hb hf]
      exact ⟨rfl, rfl, rfl, rfl⟩

end

/-- Settles O58: by the operation, and by what the embedder's turn finds to do. -/
theorem embedderReadsNoDeviceState : Obligations.EmbedderReadsNoDeviceState := by
  refine ⟨fun i s pos last mute scale hi => sameToEmbedder_exec s pos last mute scale hi,
    fun s pos last mute scale ht => ?_⟩
  rw [step_of_call ht, step_of_call (s := s.withDevice pos last mute scale) ht]
  exact sameToEmbedder_callStep s.tookTurn pos last mute scale

end Sys2Proof.Machine
end

section
/-! The record of the port calls (spec/20_memory.md R41, R42, R49): what a move adds to it, and that the
order of its calls is kept. -/

namespace Sys2Proof.Machine

/-! ## What is handed to the transport (R41) -/

theorem initConfigure_eq : initConfigure = ⟨0x43, 0x01, 0, 0, 0, 0, 0, 0⟩ := by decide

theorem getUpdateReport_eq : getUpdateReport = ⟨0x75, 0, 0, 0, 0, 0, 0, 0⟩ := by decide

/-- A port call that, where it hands over a report, hands over one of the two of R41. -/
def PortCall.Permitted (c : PortCall) : Prop :=
  ∀ h rpt, c = .memWrite h rpt →
    rpt = ⟨0x43, 0x01, 0, 0, 0, 0, 0, 0⟩ ∨ rpt = ⟨0x75, 0, 0, 0, 0, 0, 0, 0⟩

theorem PortCall.permitted_initConfigure (h : Handle) :
    (PortCall.memWrite h initConfigure).Permitted := by
  rintro - - ⟨⟩
  exact .inl initConfigure_eq

theorem PortCall.permitted_getUpdateReport (h : Handle) :
    (PortCall.memWrite h getUpdateReport).Permitted := by
  rintro - - ⟨⟩
  exact .inr getUpdateReport_eq

theorem PortCall.permitted_of_ne_memWrite {c : PortCall} (hc : ∀ h rpt, c ≠ .memWrite h rpt) :
    c.Permitted :=
  fun h rpt e => absurd e (hc h rpt)

/-- The later record is the earlier one with permitted calls added at its end. -/
inductive AddsPermitted (calls : List PortCall) : List PortCall → Prop
  | refl : AddsPermitted calls calls
  | snoc (calls' : List PortCall) (c : PortCall) (h : AddsPermitted calls calls') (hc : c.Permitted) :
      AddsPermitted calls (calls' ++ [c])

theorem AddsPermitted.exists_append {calls calls' : List PortCall} (h : AddsPermitted calls calls') :
    ∃ new, calls' = calls ++ new ∧ ∀ c ∈ new, c.Permitted := by
  induction h with
  | refl => exact ⟨[], by simp, by simp⟩
  | snoc calls' c h hc ih =>
    obtain ⟨new, rfl, hnew⟩ := ih
    exact ⟨new ++ [c], List.append_assoc .., by simpa [or_imp, forall_and] using ⟨hnew, hc⟩⟩

/-- A call that hands over no report may be added. -/
theorem AddsPermitted.other {calls calls' : List PortCall} {c : PortCall}
    (h : AddsPermitted calls calls') (hc : ∀ k rpt, c ≠ .memWrite k rpt) :
    AddsPermitted calls (calls' ++ [c]) :=
  h.snoc _ _ (PortCall.permitted_of_ne_memWrite hc)

theorem loopExit_addsPermitted (cause : ExitCause) (s : State) :
    AddsPermitted s.trace (loopExit cause s).trace := by
  rw [loopExit_trace]
  split
  · exact AddsPermitted.refl.other (by simp)
  · rw [List.append_nil]; exact .refl

theorem LoopMove.addsPermitted {s t : State} (hm : LoopMove s t) : AddsPermitted s.trace t.trace := by
  cases hm with
  | exit => exact loopExit_addsPermitted _ s
  | writeFailed => exact loopExit_addsPermitted _ s.tookWrite.landed
  | readLength | readFailed => exact loopExit_addsPermitted _ s.tookRead.landed
  | hookFailed => exact loopExit_addsPermitted _ s.tookHook
  | writeCall => exact AddsPermitted.refl.snoc _ _ (PortCall.permitted_getUpdateReport _)
  | readCall | opaqueId | discarded | received => exact AddsPermitted.refl.other (by simp)
  | _ => exact .refl

theorem OpenMove.addsPermitted {sink : Option SinkRef} {s t : State} (hm : OpenMove sink s t) :
    AddsPermitted s.trace t.trace := by
  have hopen (a : OpenAnswer) :
      AddsPermitted s.trace (s.trace ++ [.xportOpen Config.vendorId Config.productId a]) :=
    AddsPermitted.refl.other (by simp)
  have hconf (h : Handle) := (hopen (.found h)).snoc _ _ (PortCall.permitted_initConfigure h)
  cases hm with
  | notFound ha => exact hopen .deviceNotFound
  | opened h ha hw | hangs h ha hw => exact hconf h
  | initFailed h ha hw => exact (hconf h).other (by simp)

theorem CallMove.addsPermitted {s t : State} (hm : CallMove s t) : AddsPermitted s.trace t.trace := by
  cases hm with
  | openFresh sink t hp hs hm => exact hm.addsPermitted
  | openAgain sink t hp hm => exact hm.addsPermitted
  | tornDown hp ho => exact AddsPermitted.refl.other (by simp)
  | returned | refused | closed | sinkSet => exact .refl

theorem StepMove.addsPermitted {s t : State} (hm : StepMove s t) : AddsPermitted s.trace t.trace := by
  cases hm with
  | idle => exact .refl
  | loop t hm => exact hm.addsPermitted
  | failure hl => exact loopExit_addsPermitted _ s.landed
  | call t hb hm => exact hm.addsPermitted

/-- Settles O56: each move of a step adds permitted calls alone. -/
theorem transmitsConfigureAndGetUpdateOnly : Obligations.TransmitsConfigureAndGetUpdateOnly := by
  intro s t h
  obtain ⟨new, ht, hnew⟩ := (step_move h).addsPermitted.exists_append
  exact ⟨new, ht, fun k rpt hmem => hnew _ hmem k rpt rfl⟩

/-! ## The order of the calls, and one more call (R42, R49) -/

theorem portRun_snoc {calls : List PortCall} {c : PortCall} {p q : PortState}
    (h : portRun calls = some p) (hc : portNext p c = some q) : portRun (calls ++ [c]) = some q := by
  unfold portRun at h ⊢
  simp [h, hc]

theorem State.Ordered.of_trace_eq {s t : State} (h : s.Ordered) (ht : t.trace = s.trace)
    (hp : s.drv.portStates ⊆ t.drv.portStates) : t.Ordered := by
  obtain ⟨p, hmem, hrun⟩ := h
  exact ⟨p, hp hmem, ht ▸ hrun⟩

theorem State.Ordered.of_trace_append {s t : State} {c : PortCall} {q : PortState} (h : s.Ordered)
    (ht : t.trace = s.trace ++ [c]) (hp : ∀ p ∈ s.drv.portStates, portNext p c = some q)
    (hq : q ∈ t.drv.portStates) : t.Ordered := by
  obtain ⟨p, hmem, hrun⟩ := h
  exact ⟨q, hq, ht ▸ portRun_snoc hrun (hp p hmem)⟩

theorem portNext_found (h : Handle) :
    portNext .closed (.xportOpen Config.vendorId Config.productId (.found h)) = some (.opened h) := by
  simp [portNext]

theorem portNext_configure (h : Handle) :
    portNext (.opened h) (.memWrite h initConfigure) = some (.configured h) := by
  simp [portNext, initConfigure_eq]

/-- Before an open, and after the loop exit, no handle is open (R170, R203). -/
theorem State.Ordered.portRun_closed {s : State} (h : s.Ordered)
    (hp : s.drv.phase = .none ∧ s.drv.stuck = false ∨ s.drv.phase = .stopped) :
    portRun s.trace = some .closed := by
  obtain ⟨p, hmem, hrun⟩ := h
  obtain ⟨hp, hst⟩ | hp := hp <;> simp_all [Driver.portStates]

/-- Wherever the loop stands, it may close its handle (R203, R222). -/
theorem Driver.portNext_xportClose {d : Driver} (hn : d.phase ≠ .none) (hs : d.phase ≠ .stopped) :
    ∀ p ∈ d.portStates, portNext p (.xportClose d.handle) = some .closed := by
  cases hp : d.phase with
  | none => exact absurd hp hn
  | stopped => exact absurd hp hs
  | top | decode | sleep => simp [Driver.portStates, hp, portNext]
  | write | read => cases hf : d.inFlight <;> simp [Driver.portStates, hp, hf, portNext]

/-! ## Every move keeps the order -/

theorem loopExit_ordered {cause : ExitCause} {s : State} (h : s.Ordered) (hn : s.drv.phase ≠ .none)
    (hs : s.drv.phase ≠ .stopped) (ho : s.drv.handleOpen = true) : (loopExit cause s).Ordered :=
  h.of_trace_append (by rw [loopExit_trace, if_pos ho]) (Driver.portNext_xportClose hn hs)
    (by simp [Driver.portStates])

theorem raiseInLoop_landed_ordered {f : LoopFailure} {s : State} (h : s.Ordered)
    (hn : s.drv.phase ≠ .none) (hs : s.drv.phase ≠ .stopped) (ho : s.drv.handleOpen = true) :
    (raiseInLoop f s.landed).Ordered := by
  rw [raiseInLoop_landed]
  exact loopExit_ordered h hn hs ho

theorem LoopMove.ordered {s t : State} (hm : LoopMove s t) (h : s.Ordered) (hd : s.drv.Sound) :
    t.Ordered := by
  obtain ⟨hn, hstop⟩ := hm.phase_runs
  obtain ⟨ho, -⟩ := hd.inService hn hstop
  cases hm with
  | blocked hs hp hq => exact h
  | exit hs hp hk => exact loopExit_ordered h hn hstop ho
  | writeFailed hs hp hf ha => exact raiseInLoop_landed_ordered (s := s.tookWrite) h hn hstop ho
  | readLength bytes hs hp hf ha hb => exact raiseInLoop_landed_ordered (s := s.tookRead) h hn hstop ho
  | readFailed hs hp hf ha => exact raiseInLoop_landed_ordered (s := s.tookRead) h hn hstop ho
  | hookFailed e es k hs hp hr hq hk ha => exact loopExit_ordered (s := s.tookHook) h hn hstop ho
  | writeCall hs hp hf =>
    exact h.of_trace_append (q := .asked s.drv.handle) rfl
      (by simp [Driver.portStates, hp, hf, portNext, getUpdateReport_eq])
      (by simp [Driver.portStates, issueWrite, hp])
  | readCall hs hp hf =>
    exact h.of_trace_append (q := .answered s.drv.handle) rfl
      (by simp [Driver.portStates, hp, hf, portNext])
      (by simp [Driver.portStates, issueRead, hp])
  | opaqueId rpt hs hp hr hb he =>
    exact h.of_trace_append (q := .answered s.drv.handle) rfl
      (by simp [Driver.portStates, hp, portNext])
      (by simp [Driver.portStates, outputId, hp])
  | discarded e es hs hp hr hq hk | received e es k hs hp hr hq hk ha =>
    exact h.of_trace_append (q := .answered s.drv.handle) rfl
      (by simp [Driver.portStates, hp, portNext])
      (by simp [Driver.portStates, receive, hp])
  | toWrite hs hp hk | toSleep hs hp hr hq | wake hs hp =>
    exact h.of_trace_eq rfl (by simp [Driver.portStates, setPhase, hp])
  | writeOk hs hp hf ha | readOk bytes rpt hs hp hf ha hb =>
    exact h.of_trace_eq rfl (by simp [Driver.portStates, setPhase, hp, hf])
  | writeHangs hs hp hf ha | readHangs hs hp hf ha | hookHangs e es k hs hp hr hq hk ha =>
    exact h.of_trace_eq rfl (by simp [Driver.portStates, blockForever, hp])
  | update rpt newPos hs hp hr hb he ha | mismatch rpt hs hp hr hb =>
    exact h.of_trace_eq rfl (by simp [Driver.portStates, afterUpdate, discardResponse, hp])

/-- CTRL.OPEN on a slot with no handle open: at most one open, one configure and one close (R170 to
R172). -/
theorem OpenMove.ordered {sink : Option SinkRef} {s t : State} (hm : OpenMove sink s t)
    (hrun : portRun s.trace = some .closed) (hp : s.drv.phase = .none) (hst : s.drv.stuck = false) :
    t.Ordered := by
  have hconf (h : Handle) := portRun_snoc (portRun_snoc hrun (portNext_found h)) (portNext_configure h)
  cases hm with
  | notFound ha =>
    exact ⟨.closed, by simp [Driver.portStates, hp, hst], portRun_snoc hrun (by simp [portNext])⟩
  | opened h ha hw => exact ⟨.configured h, by simp [Driver.portStates], hconf h⟩
  | initFailed h ha hw =>
    exact ⟨.closed, by simp [Driver.portStates, acquireHandle, hp, hst],
      portRun_snoc (hconf h) (by simp [portNext, acquireHandle])⟩
  | hangs h ha hw =>
    exact ⟨.configured h, by simp [Driver.portStates, acquireHandle, hp], hconf h⟩

theorem CallMove.ordered {s t : State} (hm : CallMove s t) (h : s.Ordered) (hd : s.drv.Sound) :
    t.Ordered := by
  cases hm with
  | returned | refused | closed | sinkSet => exact h
  | openFresh sink t hp hs hm => exact hm.ordered (h.portRun_closed (.inl ⟨hp, hs⟩)) hp hs
  | openAgain sink t hp hm => exact hm.ordered (h.portRun_closed (.inr hp)) rfl rfl
  | tornDown hp ho => simp [(hd.closed_of_stopped hp).2] at ho

theorem StepMove.ordered {s t : State} (hm : StepMove s t) (h : s.Ordered) (hd : s.drv.Sound) :
    t.Ordered := by
  cases hm with
  | idle => exact h
  | loop t hm => exact hm.ordered h hd
  | failure hl =>
    obtain ⟨-, hn, hs⟩ := (loopMoves_iff s).1 hl
    exact raiseInLoop_landed_ordered h hn hs (hd.inService hn hs).1
  | call t hb hm => exact hm.ordered h hd

/-- Settles O47: each move of a step adds at most the calls that may come next where the loop stands. -/
theorem stepKeepsPortOrder : Obligations.StepKeepsPortOrder :=
  fun s _ hs ho h => (step_move h).ordered (s := s.tookTurn) ho hs.1

end Sys2Proof.Machine
end

section
/-! The decoder and the encoder (spec/30_encoding.md R61 to R76): the option byte, the zero-filled
payload, an equation per row of the decoder, and that the two invert each other. -/

namespace Sys2Proof

/-! ## The option byte of CMD.CONFIGURE (R64, R69) -/

theorem optMute_eq (opt : Byte) : optMute opt = opt.toNat % 2 := by
  simp [optMute, Nat.shiftRight_zero]

theorem optScale_eq (opt : Byte) : optScale opt = opt.toNat / 2 := by
  have := opt.isLt
  simp only [optScale, BitVec.extractLsb'_toNat, Nat.shiftRight_eq_div_pow]
  omega

/-- The shifted scale leaves bit 0 to the mute bit, so that the bitwise or is a sum (R69). -/
theorem optByte_eq {mute : Nat} (scale : Nat) (hm : mute ≤ 1) :
    optByte mute scale = BitVec.ofNat 8 (2 * scale + mute) := by
  have hor : (scale <<< 1) ||| mute = 2 * scale + mute := by
    rw [← Nat.shiftLeft_add_eq_or_of_lt (by omega : mute < 2 ^ 1), Nat.shiftLeft_eq]
    omega
  rw [← hor, BitVec.ofNat_or, optByte]
  congr 1
  exact BitVec.eq_of_toNat_eq (by simp [Nat.shiftLeft_eq])

theorem optByte_toNat {mute scale : Nat} (hm : mute ≤ 1) (hs : scale ≤ 127) :
    (optByte mute scale).toNat = 2 * scale + mute := by
  rw [optByte_eq scale hm, BitVec.toNat_ofNat]
  omega

/-- The two fields of an option byte make it up: no bit of it is dropped (R64). -/
theorem optByte_optMute_optScale (opt : Byte) : optByte (optMute opt) (optScale opt) = opt := by
  have hm : optMute opt ≤ 1 := by rw [optMute_eq]; omega
  refine BitVec.eq_of_toNat_eq ?_
  rw [optByte_toNat hm (by rw [optScale_eq]; have := opt.isLt; omega), optMute_eq, optScale_eq]
  omega

/-! ## The zero-filled payload (R65, R100) -/

@[simp] theorem fillFrame_bytes (op : Byte) (p : List Byte) :
    (fillFrame op p).bytes = op :: padPayload p := rfl

theorem padPayload_eq_append {p : List Byte} (h : p.length ≤ 7) :
    padPayload p = p ++ List.replicate (7 - p.length) 0 := by
  have hmap : padPayload p = (List.range 7).map (payloadByte p) := rfl
  refine List.ext_getElem (by simp [hmap]; omega) fun i _ _ => ?_
  simp only [hmap, List.getElem_map, List.getElem_range, payloadByte, List.getElem_append,
    List.getElem_replicate]
  split
  · exact (List.getElem_eq_getD 0).symm
  · exact List.getD_eq_default _ _ (by omega)

theorem allZero_iff (p : List Byte) : allZero p = true ↔ ∀ b ∈ p, b = 0 := by
  simp [allZero]

/-- Seven bytes that are zero from the k-th on are the zero-filled form of the first k. -/
theorem padPayload_take {p : List Byte} {k : Nat} (hp : p.length = 7)
    (hz : allZero (p.drop k) = true) : padPayload (p.take k) = p := by
  rw [padPayload_eq_append (by simp; omega)]
  calc p.take k ++ List.replicate (7 - (p.take k).length) 0
      = p.take k ++ p.drop k := by
        congr 1
        exact (List.eq_replicate_iff.2 ⟨by simp; omega, (allZero_iff _).1 hz⟩).symm
    _ = p := List.take_append_drop k p

theorem padPayload_of_length {p : List Byte} (hp : p.length = 7) : padPayload p = p := by
  simp [padPayload_eq_append hp.le, hp]

/-! ## The decoder of outbound words, row by row (R70, R76) -/

theorem decodePadded_of_length {p : List Byte} (unused : List Byte) (i : Instr) (hp : p.length ≤ 7) :
    decodePadded p unused i = if allZero unused then .ok i else .error .padding :=
  if_neg (Nat.not_lt.2 hp)

theorem decodePadded_ok {p unused : List Byte} {i j : Instr} (h : decodePadded p unused i = .ok j) :
    allZero unused = true ∧ j = i := by
  unfold decodePadded at h
  split_ifs at h with hl hz
  exact ⟨hz, by simpa using h.symm⟩

section
variable (p : List Byte)

theorem decodeCommand_getUpdate : decodeCommand (0x75 :: p) = decodePadded p p .cmdGetUpdate := rfl

theorem decodeCommand_getId : decodeCommand (0x3D :: p) = decodePadded p p .cmdGetId := rfl

theorem decodeCommand_configure :
    decodeCommand (0x43 :: p) = decodePadded p (p.drop 1)
      (.cmdConfigure (optMute (payloadByte p 0)) (optScale (payloadByte p 0))) := rfl

theorem decodeCommand_reset : decodeCommand (0x72 :: p) = decodePadded p p .cmdReset := rfl

theorem decodeCommand_ledAux : decodeCommand (0x4F :: p) = .ok (.cmdLedAux p) := rfl

theorem decodeCommand_beep : decodeCommand (0x5A :: p) = .ok (.cmdBeep p) := rfl

end

/-- A byte 0 outside the six opcodes selects no row (R76). -/
theorem decodeCommand_of_not_mem {op : Byte} (p : List Byte) (h : op ∉ Config.opcodes) :
    decodeCommand (op :: p) = .error .opcode := by
  simp only [Config.opcodes, List.mem_cons, List.not_mem_nil, or_false, not_or] at h
  obtain ⟨h1, h2, h3, h4, h5, h6⟩ := h
  simp [decodeCommand, *]

/-! ## The decoder of inbound words (R130) -/

theorem decodeResponse_mismatch {e : Byte} {rpt : Report} (h : rpt.b0 ≠ e) :
    decodeResponse e rpt = .rspMismatch rpt :=
  if_pos h

theorem decodeResponse_update {rpt : Report} (h : rpt.b0 = 0x75) :
    decodeResponse 0x75 rpt = .rspUpdate rpt := by
  simp [decodeResponse, h, Config.opGetUpdate]

theorem decodeResponse_opaque {e : Byte} {rpt : Report} (h : rpt.b0 = e) (he : e ≠ 0x75) :
    decodeResponse e rpt = .rspOpaque rpt :=
  (if_neg (not_not.2 h)).trans (if_neg he)

/-! ## Decode of encode (O2) -/

/-- A command of no payload is read back from its opcode and seven zeros. -/
theorem decodePadded_padPayload_nil (i : Instr) :
    decodePadded (padPayload []) (padPayload []) i = .ok i := rfl

/-- The operands of CMD.CONFIGURE come back from the option byte. -/
theorem decode_encode_configure (e : Byte) {mute scale : Nat} (hm : mute ≤ 1) (hs : scale ≤ 127) :
    decode e (encode (.cmdConfigure mute scale)) = .ok (.cmdConfigure mute scale) := by
  have hbyte := optByte_toNat hm hs
  calc decode e (encode (.cmdConfigure mute scale))
      = .ok (.cmdConfigure (optMute (optByte mute scale)) (optScale (optByte mute scale))) := rfl
    _ = .ok (.cmdConfigure mute scale) := by
      rw [optMute_eq, optScale_eq, hbyte]
      congr 2 <;> omega

theorem decode_encode {i : Instr} {e : Byte} (hw : i.wellFormed = true) (ha : i.admits e = true) :
    decode e (encode i) = .ok (canon i) := by
  cases i with
  | cmdGetUpdate | cmdGetId | cmdReset => exact decodePadded_padPayload_nil _
  | cmdConfigure mute scale =>
    obtain ⟨hm, hs⟩ : mute ≤ 1 ∧ scale ≤ 127 := by simpa [Instr.wellFormed] using hw
    exact decode_encode_configure e hm hs
  | cmdLedAux p => exact decodeCommand_ledAux _
  | cmdBeep p => exact decodeCommand_beep _
  | rspUpdate rpt =>
    obtain rfl : e = 0x75 := of_decide_eq_true ha
    exact congrArg Except.ok (decodeResponse_update (of_decide_eq_true hw))
  | rspOpaque rpt =>
    obtain rfl : e = 0x3D := of_decide_eq_true ha
    exact congrArg Except.ok (decodeResponse_opaque (of_decide_eq_true hw) (by decide))
  | rspMismatch rpt => exact congrArg Except.ok (decodeResponse_mismatch (of_decide_eq_true ha))
  | ctrlOpen | ctrlClose | ctrlSetSink | seqPoll | seqExit => rfl

/-- An operation whose opaque payload, if it has one, is seven bytes long is its written-out form. -/
theorem canon_eq_self {i : Instr}
    (h : ∀ p, i = .cmdLedAux p ∨ i = .cmdBeep p → p.length = 7) : canon i = i := by
  cases i with
  | cmdLedAux p => exact congrArg _ (padPayload_of_length (h p (.inl rfl)))
  | cmdBeep p => exact congrArg _ (padPayload_of_length (h p (.inr rfl)))
  | _ => rfl

/-- Settles O2: by the operation's row, the option byte and the padding being the two that matter. -/
theorem decodeOfEncodeIsTheOperation : Obligations.DecodeOfEncodeIsTheOperation :=
  fun _ _ hw ha => ⟨decode_encode hw ha, canon_eq_self⟩

/-! ## Encode of decode (O3) -/

theorem fillFrame_bytes_take {p : List Byte} {k : Nat} (op : Byte) (hp : p.length = 7)
    (hz : allZero (p.drop k) = true) : (fillFrame op (p.take k)).bytes = op :: p := by
  rw [fillFrame_bytes, padPayload_take hp hz]

theorem encode_of_decodeCommand {op : Byte} {p : List Byte} {i : Instr} (hp : p.length = 7)
    (h : decodeCommand (op :: p) = .ok i) : encode i = .tx (op :: p) := by
  by_cases hop : op ∈ Config.opcodes
  · simp only [Config.opcodes, List.mem_cons, List.not_mem_nil, or_false] at hop
    obtain rfl | rfl | rfl | rfl | rfl | rfl := hop
    -- get-update, get-id and reset use no payload byte
    case inl | inr.inl | inr.inr.inr.inl =>
      obtain ⟨hz, rfl⟩ := decodePadded_ok h
      exact congrArg PortWord.tx (fillFrame_bytes_take (k := 0) _ hp hz)
    -- configure uses the first
    case inr.inr.inl =>
      obtain ⟨b, q, rfl⟩ := List.exists_cons_of_length_eq_add_one hp
      obtain ⟨hz, rfl⟩ := decodePadded_ok h
      have hb : payloadByte (b :: q) 0 = b := rfl
      rw [encode, hb, optByte_optMute_optScale]
      exact congrArg PortWord.tx (fillFrame_bytes_take (k := 1) _ hp hz)
    -- LED-aux and beep use all seven
    case inr.inr.inr.inr.inl | inr.inr.inr.inr.inr =>
      cases h
      rw [encode, fillFrame_bytes, padPayload_of_length hp]
  · simp [decodeCommand_of_not_mem p hop] at h

theorem encode_of_decodeControl {cop : BitVec 3} {sink : Option SinkRef} {i : Instr}
    (h : decodeControl cop sink = .ok i) : encode i = .ctrl cop sink := by
  unfold decodeControl at h
  split_ifs at h with h0 h2 hn hs h1 h3
  · cases h; rw [h0]; rfl
  · cases sink with
    | none => cases h
    | some k => cases h; rw [h2]; rfl
  all_goals
    obtain rfl : sink = none := not_not.1 hs
    cases h
  · rw [h1]; rfl
  · rw [h3]; rfl
  · rw [(hn.resolve_left h1).resolve_left h3]; rfl

theorem encode_decodeResponse (e : Byte) (rpt : Report) : encode (decodeResponse e rpt) = .rx rpt := by
  unfold decodeResponse
  split_ifs <;> rfl

/-- Settles O3: by the port of the word; an outbound one is split at its byte 0. -/
theorem encodeOfDecodeIsTheWord : Obligations.EncodeOfDecodeIsTheWord := by
  intro w e i hlen h
  cases w with
  | ctrl cop sink => exact encode_of_decodeControl h
  | tx bytes =>
    obtain ⟨op, p, rfl⟩ := List.exists_cons_of_length_eq_add_one (hlen bytes rfl)
    exact encode_of_decodeCommand (Nat.succ_injective (hlen _ rfl)) h
  | rx rpt =>
    obtain rfl : decodeResponse e rpt = i := Except.ok.inj h
    exact encode_decodeResponse e rpt

/-! ## Which word is which operation (O4, O1) -/

/-- Settles O4: the rows of the decoder, on eight bytes. -/
theorem decodersSelectTheRow : Obligations.DecodersSelectTheRow := by
  refine ⟨fun e op b1 b2 b3 b4 b5 b6 b7 => ⟨?unknown, ?plain, ?configure, ?ledAux, ?beep⟩,
    fun e rpt => ⟨?mismatch, ?update, ?opaqueId⟩⟩
  case unknown => exact decodeCommand_of_not_mem _
  case plain =>
    have hpad (i : Instr) : decodePadded [b1, b2, b3, b4, b5, b6, b7] [b1, b2, b3, b4, b5, b6, b7] i =
        if b1 = 0 ∧ b2 = 0 ∧ b3 = 0 ∧ b4 = 0 ∧ b5 = 0 ∧ b6 = 0 ∧ b7 = 0 then .ok i
        else .error .padding := by
      rw [decodePadded_of_length _ _ (by simp)]
      simp [allZero]
    rintro i (⟨rfl, rfl⟩ | ⟨rfl, rfl⟩ | ⟨rfl, rfl⟩)
    · exact (decodeCommand_getUpdate _).trans (hpad _)
    · exact (decodeCommand_getId _).trans (hpad _)
    · exact (decodeCommand_reset _).trans (hpad _)
  case configure =>
    rintro rfl
    rw [decode, decodeCommand_configure, decodePadded_of_length _ _ (by simp)]
    simp [allZero, payloadByte, optMute_eq, optScale_eq]
  case ledAux => rintro rfl; exact decodeCommand_ledAux _
  case beep => rintro rfl; exact decodeCommand_beep _
  case mismatch => exact fun h => congrArg Except.ok (decodeResponse_mismatch h)
  case update => rintro h rfl; exact congrArg Except.ok (decodeResponse_update h)
  case opaqueId => rintro h rfl; exact congrArg Except.ok (decodeResponse_opaque h (by decide))

/-- Settles O1: eight words, decoded. -/
theorem wordsOfTheSpecDecode : Obligations.WordsOfTheSpecDecode := by
  unfold Obligations.WordsOfTheSpecDecode
  decide

end Sys2Proof
end

section
/-! The fields of a get-update response as numbers of its bytes (spec/30_encoding.md R63, R67, R68). -/

namespace Sys2Proof

open Machine

/-- sext_16 on a number below 2^16, low byte first (R9, R44). -/
theorem Report.delta_eq (rpt : Report) : rpt.delta = wireDelta rpt := by
  have h1 := rpt.b1.isLt
  have hval : (rpt.b2 ++ rpt.b1).toNat = rpt.b1.toNat + 256 * rpt.b2.toNat := by
    rw [BitVec.toNat_append, ← Nat.shiftLeft_add_eq_or_of_lt h1, Nat.shiftLeft_eq]
    omega
  rw [Report.delta, sext16, hval, wireDelta]
  push_cast
  rfl

theorem Report.buttons_toNat (rpt : Report) : rpt.buttons.toNat = wireButtons rpt := by
  simp [Report.buttons, wireButtons]

theorem Report.rocker_toNat (rpt : Report) : rpt.rocker.toNat = wireRocker rpt := by
  simp [Report.rocker, wireRocker, Nat.shiftRight_eq_div_pow]

theorem Report.tapHold_eq (rpt : Report) : rpt.tapHold = wireHold rpt := by
  simp [Report.tapHold, wireHold, BitVec.getLsbD, Nat.testBit_eq_decide_div_mod_eq]

/-- Settles O13: the delta is the number of its two bytes, each below 256. -/
theorem deltaIsSigned16 : Obligations.DeltaIsSigned16 := by
  intro rpt
  have h1 := rpt.b1.isLt
  have h2 := rpt.b2.isLt
  rw [rpt.delta_eq]
  refine ⟨rfl, ?_⟩
  unfold wireDelta
  split <;> omega

/-- Settles O14: one fact per field. -/
theorem controlByteFields : Obligations.ControlByteFields :=
  fun rpt => ⟨rpt.buttons_toNat, rpt.tapHold_eq, rpt.rocker_toNat⟩

end Sys2Proof
end

section
/-! The response operations: where they are due (spec/41_report_parser.md R130), and what of a response
the parse does not read (spec/30_encoding.md R72). -/

namespace Sys2Proof.Machine

/-! ## The response operations, where they are due and where not (R66, R130) -/

theorem whenDue_of_not_due {i : Instr} {s : State} (a : Host.Outcome State Fault Refusal)
    (hp : s.drv.phase ≠ .none) (hd : s.due ≠ some i) : whenDue i s a = .refused .notDue := by
  rw [whenDue, if_neg hp, if_neg hd]

/-- A response in the buffer is due as RSP dispatch selects it (R130). -/
theorem due_of_awaits {s : State} {rpt : Report} (h : s.awaits rpt) :
    s.due = some (decodeResponse s.drv.expectedOp rpt) := by
  obtain ⟨hp, hs, hr⟩ := h
  have hm : s.loopMoves = true := (loopMoves_iff s).2 ⟨hs, by simp [hp], by simp [hp]⟩
  simp [State.due, hm, hp, hr]

/-- Settles O41: the operations that ask whether they are due, and SEQ.POLL at STOPPED. -/
theorem internalStepsOnlyWhereDue : Obligations.InternalStepsOnlyWhereDue := by
  intro s rpt hp
  refine ⟨whenDue_of_not_due _ hp, whenDue_of_not_due _ hp, whenDue_of_not_due _ hp,
    whenDue_of_not_due _ hp, fun hs => ?_⟩
  simp [exec, execSeqPoll, hs]

theorem decodeResponse_eq_rspUpdate_iff {e : Byte} {rpt rpt' : Report} :
    decodeResponse e rpt = .rspUpdate rpt' ↔ rpt.b0 = e ∧ e = 0x75 ∧ rpt = rpt' := by
  by_cases hb : rpt.b0 = e
  · by_cases he : e = 0x75
    · subst he
      rw [decodeResponse_update hb, Instr.rspUpdate.injEq]
      exact ⟨fun h => ⟨hb, rfl, h⟩, fun ⟨_, _, h⟩ => h⟩
    · rw [decodeResponse_opaque hb he]
      exact ⟨nofun, fun ⟨_, h, _⟩ => absurd h he⟩
  · rw [decodeResponse_mismatch hb]
    exact ⟨nofun, fun ⟨h, _⟩ => absurd h hb⟩

/-- RSP.UPDATE is due for the response in the buffer of DECODE that echoes get-update (R130). -/
theorem due_rspUpdate_iff {s : State} {rpt : Report} :
    s.due = some (.rspUpdate rpt) ↔
      s.awaits rpt ∧ rpt.b0 = s.drv.expectedOp ∧ s.drv.expectedOp = 0x75 := by
  constructor
  · intro h
    obtain ⟨hs, hp, r, hr, he⟩ := due_response h (by simp) (by simp)
    obtain ⟨hb, hx, rfl⟩ := decodeResponse_eq_rspUpdate_iff.1 he.symm
    exact ⟨⟨hp, hs, hr⟩, hb, hx⟩
  · rintro ⟨ha, hb, hx⟩
    rw [due_of_awaits ha, decodeResponse_eq_rspUpdate_iff.2 ⟨hb, hx, rfl⟩]

/-! ## Responses that differ in their reserved fields alone (R72) -/

/-- The two responses have the same fields: delta, rocker, buttons and tap/hold. -/
def sameFields (rpt rpt' : Report) : Prop :=
  rpt.delta = rpt'.delta ∧ rpt.rocker = rpt'.rocker ∧ rpt.buttons = rpt'.buttons ∧
    rpt.tapHold = rpt'.tapHold

/-- No field reads bit 7 of the control byte, nor bytes 0 and 4 to 7 (R68, R72). -/
theorem sameFields_of_bytes {rpt rpt' : Report} (h1 : rpt.b1 = rpt'.b1) (h2 : rpt.b2 = rpt'.b2)
    (h3 : rpt.b3.toNat % 128 = rpt'.b3.toNat % 128) : sameFields rpt rpt' := by
  refine ⟨?_, BitVec.eq_of_toNat_eq ?_, BitVec.eq_of_toNat_eq ?_, ?_⟩
  · rw [Report.delta, h1, h2, Report.delta]
  · rw [rpt.rocker_toNat, rpt'.rocker_toNat, wireRocker, wireRocker]; omega
  · rw [rpt.buttons_toNat, rpt'.buttons_toNat, wireButtons, wireButtons]; omega
  · rw [rpt.tapHold_eq, rpt'.tapHold_eq, wireHold, wireHold]
    congr 1
    simp only [eq_iff_iff]
    omega

/-- What RSP.UPDATE leaves is a matter of the fields: it uses up the response in the buffer (R131). -/
theorem afterUpdate_congr {rpt rpt' : Report} (h : sameFields rpt rpt') (newPos : Int) (s : State) :
    afterUpdate rpt newPos (s.setDrv { s.drv with rx := some rpt }) =
      afterUpdate rpt' newPos (s.setDrv { s.drv with rx := some rpt' }) := by
  obtain ⟨hd, hr, hb, ht⟩ := h
  have hevs : ∀ last, updateEvents last newPos rpt = updateEvents last newPos rpt' := fun last => by
    rw [updateEvents, hd, hr, hb, ht, updateEvents]
  rw [afterUpdate, hevs, hr]
  rfl

theorem parseUpdate_congr {rpt rpt' : Report} (h : sameFields rpt rpt') (s : State) :
    parseUpdate rpt (s.setDrv { s.drv with rx := some rpt }) =
      parseUpdate rpt' (s.setDrv { s.drv with rx := some rpt' }) := by
  simp only [parseUpdate, afterUpdate_congr h, h.1, State.setDrv_posBits, State.setDrv_drv]

theorem whenDue_congr {i j : Instr} {s t : State} {a b : Host.Outcome State Fault Refusal}
    (hp : s.drv.phase = t.drv.phase) (hd : s.due = some i ↔ t.due = some j) (hab : a = b) :
    whenDue i s a = whenDue j t b := by
  simp only [whenDue, hp, hd, hab]

/-- Settles O20: what is due depends on byte 0, and the parse on the fields. -/
theorem reservedFieldsIgnored : Obligations.ReservedFieldsIgnored := by
  intro s rpt rpt' h0 h1 h2 h3
  have hdue : (s.setDrv { s.drv with rx := some rpt }).due = some (.rspUpdate rpt) ↔
      (s.setDrv { s.drv with rx := some rpt' }).due = some (.rspUpdate rpt') := by
    simp [due_rspUpdate_iff, State.awaits, h0]
  exact whenDue_congr rfl hdue (parseUpdate_congr (sameFields_of_bytes h1 h2 h3) s)

end Sys2Proof.Machine
end

section
/-! Operations of the embedder by their word or operands: CMD.CONFIGURE (spec/40_command_encoder.md R103),
and the control codes that are refused (spec/30_encoding.md R66). -/

namespace Sys2Proof

theorem configureFrame_of_range {mute scale : Nat} (hm : mute ≤ 1) (hs : scale ≤ 127) :
    configureFrame mute scale = .ok (fillFrame Config.opConfigure [optByte mute scale]) := by
  rw [configureFrame, if_neg (by omega)]
  rfl

theorem configureFrame_out_of_range {mute scale : Nat} (h : mute > 1 ∨ scale > 127) :
    configureFrame mute scale = .error .operand :=
  if_pos h

/-- Settles O9: the frame of the option byte in range, the refusal out of range. -/
theorem configureReturnsOptionByte : Obligations.ConfigureReturnsOptionByte := by
  intro mute scale s
  refine ⟨fun hm hs => ?inRange, fun h => ?outOfRange⟩
  case inRange =>
    rw [Machine.exec, Machine.execCmdConfigure, configureFrame_of_range hm hs, optByte_eq scale hm]
    rfl
  case outOfRange =>
    rw [Machine.exec, Machine.execCmdConfigure, configureFrame_out_of_range h]
    rfl

theorem decodeControl_of_reserved {cop : BitVec 3} (sink : Option SinkRef) (h : 5 ≤ cop.toNat) :
    decodeControl cop sink = .error .reservedControl := by
  have hne : ∀ c : BitVec 3, c.toNat < 5 → cop ≠ c := by
    rintro c hc rfl
    omega
  simp [decodeControl, hne]

theorem decodeControl_of_internal {cop : BitVec 3} (h3 : 3 ≤ cop.toNat) (h5 : cop.toNat < 5) :
    ∃ i, decodeControl cop none = .ok i ∧ Machine.embedderMay i = false := by
  obtain h | h : cop.toNat = 3 ∨ cop.toNat = 4 := by omega
  · obtain rfl : cop = 3 := BitVec.eq_of_toNat_eq h
    exact ⟨.seqPoll, rfl, rfl⟩
  · obtain rfl : cop = 4 := BitVec.eq_of_toNat_eq h
    exact ⟨.seqExit, rfl, rfl⟩

namespace Machine

theorem State.fetchCall_of_decode_error {s : State} {why : RefuseReason}
    (hd : decode s.drv.expectedOp s.nextCall = .error why) : s.fetchCall = .error why := by
  simp [State.fetchCall, hd]

/-- An internal step of the sequencer is refused to the embedder (R66, R215). -/
theorem State.fetchCall_of_internal {s : State} {i : Instr}
    (hd : decode s.drv.expectedOp s.nextCall = .ok i) (hi : embedderMay i = false) :
    s.fetchCall = .error .internalStep := by
  simp [State.fetchCall, hd, hi]

/-- A control word that the embedder may not call is refused by the reason its code gives (R66, R10). -/
theorem State.fetchCall_of_control {s : State} {cop : BitVec 3} {sink : Option SinkRef}
    (hw : s.nextCall = .ctrl cop sink) (hc : (3 ≤ cop.toNat ∧ sink = none) ∨ 5 ≤ cop.toNat) :
    s.fetchCall = .error (if cop.toNat ≤ 4 then .internalStep else .reservedControl) := by
  split_ifs with h4
  · obtain ⟨h3, rfl⟩ := hc.resolve_right (by omega)
    obtain ⟨i, hd, hi⟩ := decodeControl_of_internal h3 (by omega)
    exact State.fetchCall_of_internal (by rw [hw]; exact hd) hi
  · exact State.fetchCall_of_decode_error (by rw [hw]; exact decodeControl_of_reserved sink (by omega))

/-- Settles O5: the rows of the control port, and the refusal on the embedder's turn. -/
theorem controlCodesSelectOrAreRefused : Obligations.ControlCodesSelectOrAreRefused := by
  refine ⟨fun e sink k => ⟨rfl, rfl, rfl, rfl, rfl⟩, fun s cop sink ht hw hb hc => ⟨_, rfl, ?_⟩⟩
  rw [step_of_call ht, callStep_of_refused (s := s.tookTurn) hb (State.fetchCall_of_control hw hc)]
  rfl

end Machine

end Sys2Proof
end

section
/-! One iteration of the loop (spec/42_lifecycle.md R173 to R177; spec/41_report_parser.md R131 to R137):
a rule for each step the loop takes while its calls return, and their composition. -/

namespace Sys2Proof.Machine

/-! ## The comparators on the bytes of a response (R132 to R134, R139) -/

theorem fitsWidth_iff (posBits : Option Nat) (x : Int) :
    fitsWidth posBits x = true ↔ withinWidth posBits x := by
  cases posBits with
  | none => simp [fitsWidth, withinWidth]
  | some n => simp [fitsWidth, withinWidth]

theorem accumulate_of_withinWidth {posBits : Option Nat} {pos delta : Int}
    (h : withinWidth posBits (pos + delta)) : accumulate posBits pos delta = some (pos + delta) := by
  unfold accumulate
  split_ifs with h0 hw
  · rw [h0, add_zero]
  · rfl
  · exact absurd ((fitsWidth_iff _ _).2 h) hw

theorem rocker_eq_ofNat (rpt : Report) : rpt.rocker = BitVec.ofNat 2 (wireRocker rpt) := by
  rw [← rpt.rocker_toNat, BitVec.ofNat_toNat, BitVec.setWidth_eq]

theorem buttons_eq_ofNat (rpt : Report) : rpt.buttons = BitVec.ofNat 4 (wireButtons rpt) := by
  rw [← rpt.buttons_toNat, BitVec.ofNat_toNat, BitVec.setWidth_eq]

theorem updateEvents_eq_wireEvents (pos : Int) (last : BitVec 2) (rpt : Report) :
    updateEvents last (pos + wireDelta rpt) rpt = wireEvents pos last rpt := by
  have hrocker : rpt.rocker = last ↔ wireRocker rpt = last.toNat := by
    rw [← rpt.rocker_toNat, BitVec.toNat_inj]
  have hbuttons : rpt.buttons = 0 ↔ wireButtons rpt = 0 := by
    rw [← rpt.buttons_toNat, ← BitVec.toNat_inj]; rfl
  simp only [updateEvents, rotateEvents, rockerEvents, buttonEvents, wireEvents, rpt.delta_eq,
    rpt.tapHold_eq, ne_eq, hrocker, hbuttons, ite_not, ← rocker_eq_ofNat, ← buttons_eq_ofNat]

/-! ## What a step changes, up to the inputs it takes -/

/-- `t` is `s` with the driver `d` and these calls made on the ports, up to the inputs taken. -/
def State.movedTo (s : State) (d : Driver) (calls : List PortCall) (t : State) : Prop :=
  t = { s with drv := d, trace := s.trace ++ calls, inputs := t.inputs }

theorem State.movedTo.drv_eq {s t : State} {d : Driver} {cs : List PortCall}
    (h : s.movedTo d cs t) : t.drv = d :=
  congrArg State.drv h

theorem State.movedTo.posBits_eq {s t : State} {d : Driver} {cs : List PortCall}
    (h : s.movedTo d cs t) : t.posBits = s.posBits :=
  (congrArg State.posBits h :)

theorem State.movedTo.trans {s t u : State} {d e : Driver} {cs ds : List PortCall}
    (h : s.movedTo d cs t) (h' : t.movedTo e ds u) : s.movedTo e (cs ++ ds) u := by
  rw [State.movedTo] at h h' ⊢
  rw [h', h]
  simp

/-! ## The loop's step in each phase -/

section
variable {s : State} (ht : s.nextTurn = .loop)
include ht

/-- The step of a loop whose turn it is runs the operation that is due. -/
theorem step_of_loop_due {i : Instr} (hd : s.due = some i) : step s = exec i s.tookTurn :=
  (step_of_loop ht).trans (loopStep_of_due (s := s.tookTurn) hd)

theorem step_runsIn_top (hr : s.runsIn .top) (hk : s.drv.keepRunning = true) :
    step s = .next (setPhase .write s.tookTurn) := by
  obtain ⟨hp, hs⟩ := hr
  rw [step_of_loop_due ht (i := .seqPoll) (by simp [State.due, State.loopMoves, hp, hs, hk])]
  simp [exec, execSeqPoll, pollTop, hp, hs, hk]

theorem step_runsIn_write (hr : s.runsIn .write) :
    step s = .next (if s.drv.inFlight then returnWrite s.tookTurn else issueWrite s.tookTurn) := by
  obtain ⟨hp, hs⟩ := hr
  rw [step_of_loop_due ht (i := .seqPoll) (by simp [State.due, State.loopMoves, hp, hs])]
  cases hf : s.drv.inFlight <;> simp [exec, execSeqPoll, hp, hs, hf]

theorem step_runsIn_read (hr : s.runsIn .read) :
    step s = .next (if s.drv.inFlight then returnRead s.tookTurn else issueRead s.tookTurn) := by
  obtain ⟨hp, hs⟩ := hr
  rw [step_of_loop_due ht (i := .seqPoll) (by simp [State.due, State.loopMoves, hp, hs])]
  cases hf : s.drv.inFlight <;> simp [exec, execSeqPoll, hp, hs, hf]

theorem step_runsIn_decode (hr : s.runsIn .decode) (hx : s.drv.rx = none) :
    step s = .next (deliverNext s.tookTurn) := by
  obtain ⟨hp, hs⟩ := hr
  rw [step_of_loop_due ht (i := .seqPoll) (by simp [State.due, State.loopMoves, hp, hs, hx])]
  simp [exec, execSeqPoll, pollDecode, hp, hs, hx]

theorem step_runsIn_sleep (hr : s.runsIn .sleep) : step s = .next (setPhase .top s.tookTurn) := by
  obtain ⟨hp, hs⟩ := hr
  rw [step_of_loop_due ht (i := .seqPoll) (by simp [State.due, State.loopMoves, hp, hs])]
  simp [exec, execSeqPoll, hp, hs]

theorem step_delivered (hr : s.runsIn .decode) (hx : s.drv.rx = none) (hq : s.drv.pending = []) :
    step s = .next (setPhase .sleep s.tookTurn) := by
  rw [step_runsIn_decode ht hr hx]
  simp [deliverNext, hq]

theorem step_update {rpt : Report} {newPos : Int} (hw : s.awaits rpt) (hb : rpt.b0 = 0x75)
    (he : s.drv.expectedOp = 0x75) (hacc : accumulate s.posBits s.drv.pos rpt.delta = some newPos) :
    step s = .next (afterUpdate rpt newPos s.tookTurn) := by
  have hd : s.due = some (.rspUpdate rpt) := due_rspUpdate_iff.2 ⟨hw, hb.trans he.symm, he⟩
  calc step s = exec (.rspUpdate rpt) s.tookTurn := step_of_loop_due ht hd
    _ = parseUpdate rpt s.tookTurn := whenDue_due _ (by simp [hw.1]) hd
    _ = .next (afterUpdate rpt newPos s.tookTurn) := parseUpdate_of_accumulate hacc

theorem step_mismatch {rpt : Report} (hw : s.awaits rpt) (hb : rpt.b0 ≠ s.drv.expectedOp) :
    step s = .next (discardResponse s.tookTurn) := by
  have hd : s.due = some (.rspMismatch rpt) := by rw [due_of_awaits hw, decodeResponse_mismatch hb]
  calc step s = exec (.rspMismatch rpt) s.tookTurn := step_of_loop_due ht hd
    _ = .next (discardResponse s.tookTurn) := whenDue_due _ (by simp [hw.1]) hd

end

/-! ## The loop's step in a transfer and a delivery, its call answered -/

section
variable {s : State} {rpt : Report} (ha : s.answers rpt)
include ha

theorem step_write_return (hr : s.runsIn .write) (hf : s.drv.inFlight = true) :
    step s = .next (setPhase .read s.tookTurn.tookWrite) := by
  obtain ⟨ht, hw, -, -⟩ := ha
  rw [step_runsIn_write ht hr, if_pos hf, returnWrite, hw hr.1 hf]

theorem step_read_return (hr : s.runsIn .read) (hf : s.drv.inFlight = true) :
    step s = .next (s.tookTurn.tookRead.setDrv
      { s.drv with phase := .decode, inFlight := false, rx := some rpt }) := by
  obtain ⟨ht, -, hb, -⟩ := ha
  rw [step_runsIn_read ht hr, if_pos hf, returnRead, hb hr.1 hf]
  rfl

theorem step_deliver {e : Event} {es : List Event} (hr : s.runsIn .decode) (hx : s.drv.rx = none)
    (hq : s.drv.pending = e :: es) :
    ∃ t, step s = .next t ∧ s.movedTo { s.drv with pending := es } [.hook s.drv.sink e] t := by
  obtain ⟨ht, -, -, hh⟩ := ha
  have hok := hh hr.1 hx (by simp [hq])
  rw [step_runsIn_decode ht hr hx]
  cases hk : s.drv.sink with
  | default =>
    refine ⟨receive e es s.tookTurn, ?_, by rw [← hk]; rfl⟩
    simp [deliverNext, deliver, hq, hk]
  | ref k =>
    refine ⟨receive e es s.tookTurn.tookHook, ?_, by rw [← hk]; rfl⟩
    simp [deliverNext, deliver, hq, hk, hok]

end

/-! ## Runs whose every step is answered -/

/-- While the first `n` steps from `s` are the loop's and its calls there return, they lead to a state of
`P`. -/
def Leads (rpt : Report) (n : Nat) (s : State) (P : State → Prop) : Prop :=
  (∀ (k : Nat) (u : State), k < n → Host.Core.run Sys2Proof.core k s = .next u → u.answers rpt) →
    ∃ t, Host.Core.run Sys2Proof.core n s = .next t ∧ P t

theorem Leads.zero {rpt : Report} {s : State} {P : State → Prop} (h : P s) : Leads rpt 0 s P :=
  fun _ => ⟨s, run_zero s, h⟩

theorem Leads.mono {rpt : Report} {n : Nat} {s : State} {P Q : State → Prop} (h : Leads rpt n s P)
    (hPQ : ∀ t, P t → Q t) : Leads rpt n s Q := by
  intro ha
  obtain ⟨t, ht, hP⟩ := h ha
  exact ⟨t, ht, hPQ t hP⟩

theorem Leads.step {rpt : Report} {n : Nat} {s : State} {P : State → Prop}
    (h : s.answers rpt → ∃ t, step s = .next t ∧ Leads rpt n t P) : Leads rpt (n + 1) s P := by
  intro ha
  obtain ⟨t, hst, hn⟩ := h (ha 0 s n.succ_pos (run_zero s))
  obtain ⟨u, hu, hP⟩ :=
    hn fun k v hk hv => ha (k + 1) v (Nat.succ_lt_succ hk) ((run_succ_next hst k).trans hv)
  exact ⟨u, (run_succ_next hst n).trans hu, hP⟩

theorem run_add_of_run {m n : Nat} {s t : State} (h : Host.Core.run Sys2Proof.core m s = .next t) :
    Host.Core.run Sys2Proof.core (m + n) s = Host.Core.run Sys2Proof.core n t := by
  induction m generalizing s with
  | zero => cases h; rw [Nat.zero_add]
  | succ m ih =>
    obtain ⟨u, hu, hr⟩ := run_succ_inv h
    rw [Nat.succ_add, run_succ_next hu, ih hr]

theorem Leads.trans {rpt : Report} {m n : Nat} {s : State} {P Q : State → Prop}
    (h : Leads rpt m s P) (hQ : ∀ t, P t → Leads rpt n t Q) : Leads rpt (m + n) s Q := by
  intro ha
  obtain ⟨t, ht, hP⟩ := h fun k u hk hu => ha k u (by omega) hu
  obtain ⟨u, hu, hq⟩ :=
    hQ t hP fun k v hk hv => ha (m + k) v (by omega) ((run_add_of_run ht).trans hv)
  exact ⟨u, (run_add_of_run ht).trans hu, hq⟩

/-! ## The stages of an iteration -/

/-- The driver in DECODE with a response in its buffer, as the exchange leaves it (R175). -/
def Driver.received (d : Driver) (rpt : Report) : Driver :=
  { d with phase := .decode, inFlight := false, expectedOp := 0x75, rx := some rpt }

/-- TOP to DECODE: get-update is sent and its response read (R173 to R175). -/
theorem leads_exchange {s : State} (rpt : Report) (hr : s.runsIn .top)
    (hk : s.drv.keepRunning = true) :
    Leads rpt 5 s (s.movedTo (s.drv.received rpt)
      [.memWrite s.drv.handle getUpdateReport, .memRead s.drv.handle]) := by
  have hs := hr.2
  refine .step fun ha => ⟨_, step_runsIn_top ha.1 hr hk, ?_⟩
  refine .step fun ha => ⟨_, step_runsIn_write ha.1 ⟨rfl, hs⟩, ?_⟩
  refine .step fun ha => ⟨_, step_write_return ha ⟨rfl, hs⟩ rfl, ?_⟩
  refine .step fun ha => ⟨_, step_runsIn_read ha.1 ⟨rfl, hs⟩, ?_⟩
  refine .step fun ha => ⟨_, step_read_return ha ⟨rfl, hs⟩ rfl, .zero ?_⟩
  rw [State.movedTo, List.append_cons]
  rfl

/-- The driver after a response to get-update has been parsed: a matching one has moved POS by its delta
and stored its rocker, a mismatched one has changed nothing (R131, R137). -/
def Driver.answered (d : Driver) (rpt : Report) : Driver :=
  if rpt.b0 = 0x75 then
    { d with pos := d.pos + wireDelta rpt, rockerLast := BitVec.ofNat 2 (wireRocker rpt) }
  else d

@[simp] theorem Driver.answered_phase (d : Driver) (rpt : Report) :
    (d.answered rpt).phase = d.phase := by
  unfold Driver.answered; split <;> rfl
@[simp] theorem Driver.answered_stuck (d : Driver) (rpt : Report) :
    (d.answered rpt).stuck = d.stuck := by
  unfold Driver.answered; split <;> rfl
@[simp] theorem Driver.answered_sink (d : Driver) (rpt : Report) :
    (d.answered rpt).sink = d.sink := by
  unfold Driver.answered; split <;> rfl

/-- What RSP.UPDATE leaves, its response a matching one (R131 to R133). -/
theorem afterUpdate_movedTo {rpt : Report} (hb : rpt.b0 = 0x75) (s : State) :
    s.movedTo ((s.drv.answered rpt).parsed (arrange s.eventOrder
      (updateEvents s.drv.rockerLast (s.drv.pos + wireDelta rpt) rpt))) []
      (afterUpdate rpt (s.drv.pos + wireDelta rpt) s) := by
  have hlast : (if rpt.rocker ≠ s.drv.rockerLast then rpt.rocker else s.drv.rockerLast) =
      BitVec.ofNat 2 (wireRocker rpt) := by
    rw [← rocker_eq_ofNat]
    split_ifs with h
    · rfl
    · exact (not_not.1 h).symm
  rw [State.movedTo, List.append_nil, Driver.answered, if_pos hb, afterUpdate, hlast]
  rfl

/-- DECODE, the parse: the events of the response wait in some order (R131, R137, R142). -/
theorem leads_parse {s : State} {rpt : Report} (hw : s.awaits rpt) (he : s.drv.expectedOp = 0x75)
    (hfit : rpt.b0 = 0x75 → withinWidth s.posBits (s.drv.pos + wireDelta rpt)) :
    Leads rpt 1 s fun t => ∃ evs, evs.Perm (responseEvents s.drv.pos s.drv.rockerLast rpt) ∧
      s.movedTo ((s.drv.answered rpt).parsed evs) [] t := by
  refine .step fun ha => ?_
  by_cases hb : rpt.b0 = 0x75
  · have hacc : accumulate s.posBits s.drv.pos rpt.delta = some (s.drv.pos + wireDelta rpt) := by
      rw [rpt.delta_eq]
      exact accumulate_of_withinWidth (hfit hb)
    refine ⟨_, step_update ha.1 hw hb he hacc, .zero ⟨_, ?_, afterUpdate_movedTo hb s.tookTurn⟩⟩
    rw [responseEvents, if_pos hb, ← updateEvents_eq_wireEvents]
    exact arrange_perm _ _
  · refine ⟨_, step_mismatch ha.1 hw (he ▸ hb), .zero ⟨[], ?_, ?_⟩⟩
    · rw [responseEvents, if_neg hb]
    · rw [State.movedTo, List.append_nil, Driver.answered, if_neg hb]
      rfl

/-- The driver back at TOP, its events delivered (R177). -/
def Driver.home (d : Driver) : Driver := { d with phase := .top, inFlight := false, pending := [] }

/-- DECODE to TOP: each event that waits is given once to the sink (R142, R176, R177). -/
theorem leads_home {s : State} {evs : List Event} (rpt : Report) (hr : s.runsIn .decode)
    (hx : s.drv.rx = none) (hq : s.drv.pending = evs) :
    Leads rpt (evs.length + 2) s (s.movedTo s.drv.home (evs.map fun e => .hook s.drv.sink e)) := by
  induction evs generalizing s with
  | nil =>
    have hs := hr.2
    refine .step fun ha => ⟨_, step_delivered ha.1 hr hx hq, ?_⟩
    refine .step fun ha => ⟨_, step_runsIn_sleep ha.1 ⟨rfl, hs⟩, .zero ?_⟩
    rw [State.movedTo, List.map_nil, List.append_nil, Driver.home, ← hq]
    rfl
  | cons e es ih =>
    refine .step fun ha => ?_
    obtain ⟨t, hst, hm⟩ := step_deliver ha hr hx hq
    have hd := hm.drv_eq
    refine ⟨t, hst, (ih (s := t) ?_ ?_ ?_).mono fun u hu => ?_⟩
    · rw [State.runsIn, hd]; exact hr
    · rw [hd]; exact hx
    · rw [hd]
    · rw [hd] at hu
      exact hm.trans hu

/-! ## A whole iteration -/

theorem Driver.Sound.expectedOp_eq {d : Driver} (h : d.Sound) (hp : d.phase ≠ .none) :
    d.expectedOp = 0x75 := by
  obtain ⟨⟨-, -, -, -, hc⟩, -⟩ := h
  exact (hc hp).2.2

/-- At TOP a sound driver has no transfer in flight (R49). -/
theorem Driver.Sound.inFlight_top {d : Driver} (h : d.Sound) (hp : d.phase = .top) :
    d.inFlight = false := by
  obtain ⟨-, hf, -, -, -⟩ := h
  simpa [hp] using hf

/-- A driver at TOP with nothing in progress is where an iteration leaves it. -/
theorem Driver.Sound.home_received {d : Driver} (h : d.Sound) (hp : d.phase = .top) (rpt : Report)
    (evs : List Event) : ((d.received rpt).parsed evs).home = d := by
  have he := h.expectedOp_eq (by simp [hp])
  have hf := h.inFlight_top hp
  have hx := h.rx_eq_none (by simp [hp])
  have hq := h.pending_eq_nil (by simp [hp])
  cases d
  subst hp he hf hx hq
  rfl

theorem Driver.home_parsed_answered (d : Driver) (rpt : Report) (evs : List Event) :
    ((d.answered rpt).parsed evs).home = ((d.parsed evs).home).answered rpt := by
  unfold Driver.answered
  split <;> rfl

/-- The loop from TOP to TOP: get-update, its response, and what the response stands for. -/
theorem leads_iteration {s : State} {rpt : Report} {n : Nat} (hs : s.drv.Sound) (hr : s.runsIn .top)
    (hk : s.drv.keepRunning = true)
    (hfit : rpt.b0 = 0x75 → withinWidth s.posBits (s.drv.pos + wireDelta rpt))
    (hn : n = (responseEvents s.drv.pos s.drv.rockerLast rpt).length) :
    Leads rpt (5 + (1 + (n + 2))) s fun t => ∃ evs : List Event,
      evs.Perm (responseEvents s.drv.pos s.drv.rockerLast rpt) ∧
      s.movedTo (s.drv.answered rpt) ([.memWrite s.drv.handle getUpdateReport, .memRead s.drv.handle]
        ++ evs.map fun e => .hook s.drv.sink e) t := by
  have hp := hr.1
  have hstuck := hr.2
  refine (leads_exchange rpt hr hk).trans fun t ht => ?_
  have htd := ht.drv_eq
  have hparse := leads_parse (s := t) (rpt := rpt) (by rw [State.awaits, htd]; exact ⟨rfl, hstuck, rfl⟩)
    (by rw [htd]; rfl) (by rw [htd, ht.posBits_eq]; exact hfit)
  rw [htd] at hparse
  refine hparse.trans fun u ⟨evs, hperm, hu⟩ => ?_
  have hud := hu.drv_eq
  have hur : u.runsIn .decode := by
    rw [State.runsIn, hud]
    simpa [Driver.received] using hstuck
  obtain rfl : evs.length = n := hperm.length_eq.trans hn.symm
  refine (leads_home rpt hur (by rw [hud]; rfl) (by rw [hud]; rfl)).mono fun v hv => ⟨evs, hperm, ?_⟩
  have hsink : u.drv.sink = s.drv.sink := by rw [hud]; simp [Driver.received]
  have hall := (ht.trans hu).trans hv
  rw [hsink, hud, Driver.home_parsed_answered, hs.home_received hp, List.append_nil] at hall
  exact hall

/-- Settles O59: the stages of an iteration, one after the other. -/
theorem iterationCompletes : Obligations.IterationCompletes := by
  intro s rpt n hs hr hk hfit hn ha
  have hlen : 8 + n = 5 + (1 + (n + 2)) := by omega
  rw [hlen] at ha ⊢
  obtain ⟨t, ht, evs, hperm, hm⟩ := leads_iteration hs.1 hr hk hfit hn ha
  refine ⟨t, evs, ht, hperm, hm.drv_eq, ?_⟩
  rw [hm, getUpdateReport_eq]
  exact ⟨(List.append_assoc ..).symm, rfl, rfl, rfl, rfl⟩

end Sys2Proof.Machine
end

section
/-! The command encoder (spec/40_command_encoder.md R100 to R108): the cases of Frame, the report or the
refusal each command hands back, and the configure write of CTRL.OPEN. -/

namespace Sys2Proof

/-! ## Frame(op, p) (R100) -/

section
variable {op : Byte} {p : List Byte}

theorem frame_of_not_mem (hop : op ∉ Config.opcodes) : frame op p = .error .opcode :=
  if_pos hop

theorem frame_of_length_gt (hop : op ∈ Config.opcodes) (hp : 7 < p.length) :
    frame op p = .error .payload :=
  (if_neg (not_not.2 hop)).trans (if_pos hp)

theorem frame_of_length_le (hop : op ∈ Config.opcodes) (hp : p.length ≤ 7) :
    frame op p = .ok (fillFrame op p) :=
  (if_neg (not_not.2 hop)).trans (if_neg (Nat.not_lt.2 hp))

theorem fillFrame_bytes_of_length_le (op : Byte) (hp : p.length ≤ 7) :
    (fillFrame op p).bytes = op :: p ++ List.replicate (7 - p.length) 0 := by
  rw [fillFrame_bytes, padPayload_eq_append hp, List.cons_append]

end

/-- Settles O7: the opcode is tested before the length, and the frame is the zero-filled payload behind
its opcode. -/
theorem frameIsOpcodePayloadZeros : Obligations.FrameIsOpcodePayloadZeros := by
  intro op p
  exact ⟨frame_of_not_mem, frame_of_length_gt,
    fun hop hp => ⟨fillFrame op p, frame_of_length_le hop hp, fillFrame_bytes_of_length_le op hp⟩⟩

end Sys2Proof

namespace Sys2Proof.Machine

/-! ## What a command hands back (R101 to R107) -/

/-- What a command answers and whether it sets the mark is fixed by its frame, before any state. -/
theorem returnReport_uniform (r : Except RefuseReason Report) :
    ∃ (answer : Ret) (refuses : Bool), ∀ s : State,
      returnReport r s = { s with ret := answer, refusalMark := s.refusalMark || refuses } := by
  cases r with
  | ok rpt => exact ⟨.report rpt, false, fun s => by rw [Bool.or_false]; rfl⟩
  | error why => exact ⟨.refused why, true, fun s => by rw [Bool.or_true]; rfl⟩

/-- A command hands back one frame, which its operands alone determine (R107). -/
theorem exec_command {i : Instr} (hi : isCommand i = true) :
    ∃ r : Except RefuseReason Report, ∀ s : State, exec i s = .next (returnReport r s) := by
  cases i with
  | cmdGetUpdate | cmdGetId | cmdConfigure | cmdReset | cmdLedAux | cmdBeep =>
    exact ⟨_, fun _ => rfl⟩
  | rspUpdate | rspOpaque | rspMismatch | ctrlOpen | ctrlClose | ctrlSetSink | seqPoll | seqExit =>
    cases hi

theorem returnReport_frame_of_length_le {op : Byte} {p : List Byte} (hop : op ∈ Config.opcodes)
    (hp : p.length ≤ 7) (s : State) :
    returnReport (frame op p) s = { s with ret := .report (fillFrame op p) } := by
  rw [frame_of_length_le hop hp]
  rfl

theorem returnReport_frame_of_length_gt {op : Byte} {p : List Byte} (hop : op ∈ Config.opcodes)
    (hp : 7 < p.length) (s : State) :
    returnReport (frame op p) s = { s with refusalMark := true, ret := .refused .payload } := by
  rw [frame_of_length_gt hop hp]
  rfl

/-- Settles O8: each of the three hands back the frame of its opcode and no payload. -/
theorem plainCommandsReturnTheirReport : Obligations.PlainCommandsReturnTheirReport := by
  intro s
  have hframe : ∀ op ∈ Config.opcodes,
      returnReport (frame op []) s = { s with ret := .report (fillFrame op []) } :=
    fun op hop => returnReport_frame_of_length_le hop (by simp) s
  exact ⟨congrArg Host.Outcome.next (hframe 0x75 (by decide)),
    congrArg Host.Outcome.next (hframe 0x3D (by decide)),
    congrArg Host.Outcome.next (hframe 0x72 (by decide))⟩

/-- Settles O10: both commands are the frame of their opcode and the payload, or its refusal. -/
theorem opaqueCommandsPassPayload : Obligations.OpaqueCommandsPassPayload := by
  intro p s
  have hled : (0x4F : Byte) ∈ Config.opcodes := by decide
  have hbeep : (0x5A : Byte) ∈ Config.opcodes := by decide
  refine ⟨fun hp => ⟨fillFrame 0x4F p, fillFrame 0x5A p, ?ledBytes, ?beepBytes, ?led, ?beep⟩,
    fun hp => ⟨?ledRefused, ?beepRefused⟩⟩
  case ledBytes => exact fillFrame_bytes_of_length_le 0x4F hp
  case beepBytes => exact fillFrame_bytes_of_length_le 0x5A hp
  case led => exact congrArg Host.Outcome.next (returnReport_frame_of_length_le hled hp s)
  case beep => exact congrArg Host.Outcome.next (returnReport_frame_of_length_le hbeep hp s)
  case ledRefused => exact congrArg Host.Outcome.next (returnReport_frame_of_length_gt hled hp s)
  case beepRefused => exact congrArg Host.Outcome.next (returnReport_frame_of_length_gt hbeep hp s)

/-- Settles O11: the frame of the operands is chosen before the state, and its answer with it. -/
theorem commandsDependOnOperandsAlone : Obligations.CommandsDependOnOperandsAlone := by
  intro i hi
  obtain ⟨r, hexec⟩ := exec_command hi
  obtain ⟨answer, refuses, hret⟩ := returnReport_uniform r
  exact ⟨answer, refuses, fun s => (hexec s).trans (congrArg Host.Outcome.next (hret s))⟩

/-! ## The configure write of CTRL.OPEN (R108, R170) -/

theorem exec_ctrlOpen_of_fresh {s : State} (sink : Option SinkRef) (hp : s.drv.phase = .none)
    (hs : s.drv.stuck = false) : exec (.ctrlOpen sink) s = .next (openDevice sink s) :=
  if_pos ⟨hp, hs⟩

theorem openDevice_of_found {s : State} {h : Handle} (sink : Option SinkRef)
    (ha : s.openAnswer = .found h) : openDevice sink s = configureDevice sink (acquireHandle h s) := by
  simp only [openDevice, ha]

theorem configureDevice_of_ok {s : State} (sink : Option SinkRef) (hw : s.writeAnswer = .ok) :
    configureDevice sink s =
      ((s.tookWrite.emit (.memWrite s.drv.handle initConfigure)).setDrv
        (Driver.opened s.drv.handle (sinkOf sink))).setRet .driver := by
  simp only [configureDevice, hw]

/-- Settles O24: the open and the configure write, each answered well, and the driver they leave. -/
theorem openBringsReset : Obligations.OpenBringsReset := by
  intro s sink h hp hs ha hw
  have hw' : (acquireHandle h s).writeAnswer = .ok := hw
  rw [exec_ctrlOpen_of_fresh sink hp hs, openDevice_of_found sink ha, configureDevice_of_ok sink hw',
    initConfigure_eq, List.append_cons]
  cases sink <;> rfl

end Sys2Proof.Machine
end

section
/-! The report parser (spec/41_report_parser.md R130 to R139, R142): the operation that dispatch selects is
the one the loop takes, what RSP.UPDATE leaves by its three comparators, the order in which its events
wait, and that POS stays within P_POS_BITS. -/

namespace Sys2Proof.Machine

/-! ## RSP dispatch (R130, R137, R138) -/

section
variable {s : State} {rpt : Report} (ha : s.awaits rpt)
include ha

theorem State.awaits.phase_ne_none : s.drv.phase ≠ .none := by
  simp [ha.1]

theorem exec_rspMismatch_of_awaits (hb : rpt.b0 ≠ s.drv.expectedOp) :
    exec (.rspMismatch rpt) s = .next (discardResponse s) :=
  whenDue_due _ ha.phase_ne_none (by rw [due_of_awaits ha, decodeResponse_mismatch hb])

theorem exec_rspUpdate_of_awaits (hb : rpt.b0 = s.drv.expectedOp) (he : s.drv.expectedOp = 0x75) :
    exec (.rspUpdate rpt) s = parseUpdate rpt s :=
  whenDue_due _ ha.phase_ne_none (due_rspUpdate_iff.2 ⟨ha, hb, he⟩)

theorem exec_rspOpaque_of_awaits (hb : rpt.b0 = s.drv.expectedOp) (he : s.drv.expectedOp ≠ 0x75) :
    exec (.rspOpaque rpt) s = .next (outputId rpt s) :=
  whenDue_due _ ha.phase_ne_none (by rw [due_of_awaits ha, decodeResponse_opaque hb he])

theorem exec_seqPoll_of_awaits : exec .seqPoll s = dispatchResponse rpt s := by
  obtain ⟨hp, hs, hr⟩ := ha
  simp [exec, execSeqPoll, pollDecode, hp, hs, hr]

/-- The operation RSP dispatch selects does what the loop's own step does with the response (R130). -/
theorem exec_decodeResponse_of_awaits :
    exec (decodeResponse s.drv.expectedOp rpt) s = dispatchResponse rpt s := by
  unfold dispatchResponse
  split_ifs with hb he
  · rw [decodeResponse_mismatch hb, exec_rspMismatch_of_awaits ha hb]
  · rw [decodeResponse_eq_rspUpdate_iff.2 ⟨not_not.1 hb, he, rfl⟩,
      exec_rspUpdate_of_awaits ha (not_not.1 hb) he]
  · rw [decodeResponse_opaque (not_not.1 hb) he, exec_rspOpaque_of_awaits ha (not_not.1 hb) he]

end

/-- Settles O15: what is due, and what SEQ.POLL does, is the operation that dispatch selects. -/
theorem responseDispatch : Obligations.ResponseDispatch := by
  intro s rpt ha
  have h : s.due = some (decodeResponse s.drv.expectedOp rpt) ∧
      exec .seqPoll s = exec (decodeResponse s.drv.expectedOp rpt) s :=
    ⟨due_of_awaits ha, (exec_seqPoll_of_awaits ha).trans (exec_decodeResponse_of_awaits ha).symm⟩
  refine ⟨fun hb => ?mismatch, fun hb he => ?update, fun hb he => ?opaqueId⟩
  case mismatch => rwa [decodeResponse_mismatch hb] at h
  case update => rwa [decodeResponse_eq_rspUpdate_iff.2 ⟨hb, he, rfl⟩] at h
  case opaqueId => rwa [decodeResponse_opaque hb he] at h

/-- Settles O21: RSP.MISMATCH is due there, and discards the response. -/
theorem mismatchedResponseDiscarded : Obligations.MismatchedResponseDiscarded :=
  fun _ _ => exec_rspMismatch_of_awaits

/-- Settles O22: RSP.OPAQUE is due only under an EXPECTED_OP that no sound driver has. -/
theorem opaqueResponseGoesToIdOut : Obligations.OpaqueResponseGoesToIdOut := by
  refine ⟨fun _ _ => exec_rspOpaque_of_awaits, fun s rpt hs hd => ?_⟩
  obtain ⟨-, hp, r, -, hr⟩ := due_response hd (by simp) (by simp)
  rw [hs.1.expectedOp_eq (by simp [hp])] at hr
  by_cases hb : r.b0 = 0x75
  · rw [decodeResponse_update hb] at hr; cases hr
  · rw [decodeResponse_mismatch hb] at hr; cases hr

/-! ## What RSP.UPDATE leaves (R131 to R135) -/

@[simp] theorem afterUpdate_pos (rpt : Report) (newPos : Int) (s : State) :
    (afterUpdate rpt newPos s).drv.pos = newPos := rfl

/-- ROCKER_LAST is the rocker field of the last response, whether or not it was written (R133). -/
@[simp] theorem afterUpdate_rockerLast (rpt : Report) (newPos : Int) (s : State) :
    (afterUpdate rpt newPos s).drv.rockerLast = rpt.rocker := by
  by_cases h : rpt.rocker = s.drv.rockerLast <;> simp [afterUpdate, h]

@[simp] theorem afterUpdate_pending (rpt : Report) (newPos : Int) (s : State) :
    (afterUpdate rpt newPos s).drv.pending =
      arrange s.eventOrder (updateEvents s.drv.rockerLast newPos rpt) := rfl

theorem eq_add_of_accumulate {posBits : Option Nat} {pos delta newPos : Int}
    (h : accumulate posBits pos delta = some newPos) : newPos = pos + delta := by
  unfold accumulate at h
  split_ifs at h with h0
  · simpa [h0] using h.symm
  · simpa using h.symm

/-- All that RSP.UPDATE can end in: the state after the parse, with the delta added (R131, R132). -/
theorem exec_rspUpdate_next {s t : State} {rpt : Report} (h : exec (.rspUpdate rpt) s = .next t) :
    t = afterUpdate rpt (s.drv.pos + rpt.delta) s := by
  obtain ⟨-, -, ha⟩ := whenDue_next h
  obtain ⟨newPos, hacc, rfl⟩ := parseUpdate_next ha
  rw [eq_add_of_accumulate hacc]

/-- RSP.UPDATE completes where the sum fits P_POS_BITS (R131, R139). -/
theorem exec_rspUpdate_of_withinWidth {s : State} {rpt : Report} (ha : s.awaits rpt)
    (hb : rpt.b0 = 0x75) (he : s.drv.expectedOp = 0x75)
    (hw : withinWidth s.posBits (s.drv.pos + wireDelta rpt)) :
    exec (.rspUpdate rpt) s = .next (afterUpdate rpt (s.drv.pos + wireDelta rpt) s) := by
  rw [exec_rspUpdate_of_awaits ha (hb.trans he.symm) he]
  rw [← rpt.delta_eq] at hw ⊢
  exact parseUpdate_of_accumulate (accumulate_of_withinWidth hw)

/-- Settles O16: `afterUpdate_movedTo` says what changes, and the drawn order keeps the events. -/
theorem updateResponseResult : Obligations.UpdateResponseResult := by
  intro s rpt ha hb he hw
  refine ⟨_, exec_rspUpdate_of_withinWidth ha hb he hw, ?events, ?frame⟩
  case events =>
    rw [afterUpdate_pending, updateEvents_eq_wireEvents]
    exact arrange_perm _ _
  case frame =>
    have h := afterUpdate_movedTo hb s
    rw [State.movedTo, List.append_nil, Driver.answered, if_pos hb] at h
    exact h

theorem withinWidth_none (x : Int) : withinWidth none x := nofun

/-- An accumulator that leaves a finite width overflows; a delta of 0 does not leave it (R139). -/
theorem accumulate_eq_none {posBits : Option Nat} {pos delta : Int} (hp : withinWidth posBits pos)
    (h : ¬ withinWidth posBits (pos + delta)) : accumulate posBits pos delta = none := by
  unfold accumulate
  split_ifs with h0 hw
  · rw [h0, add_zero] at h
    exact absurd hp h
  · exact absurd ((fitsWidth_iff _ _).1 hw) h
  · rfl

/-- Settles O18: the accumulator overflows, or the unbounded width holds every sum. -/
theorem positionOverflowFaults : Obligations.PositionOverflowFaults := by
  intro s rpt ha hb he
  refine ⟨fun hp hw => ?_, fun hn =>
    ⟨_, exec_rspUpdate_of_withinWidth ha hb he (hn ▸ withinWidth_none _)⟩⟩
  rw [exec_rspUpdate_of_awaits ha (hb.trans he.symm) he, parseUpdate, rpt.delta_eq,
    accumulate_eq_none hp hw]

/-! ## The comparators are independent (R135) -/

theorem filter_button_updateEvents (last : BitVec 2) (newPos : Int) (rpt : Report) :
    (updateEvents last newPos rpt).filter (fun e => decide (e.kind = .button)) =
      buttonEvents rpt.buttons rpt.tapHold := by
  unfold updateEvents rotateEvents rockerEvents buttonEvents
  split_ifs <;> rfl

/-- Settles O19: each comparator's events are those of its kind, and it reads its own field alone. -/
theorem comparatorsAreIndependent : Obligations.ComparatorsAreIndependent := by
  intro s s' t t' rpt rpt' h h'
  obtain rfl := exec_rspUpdate_next h
  obtain rfl := exec_rspUpdate_next h'
  simp only [afterUpdate_pos, afterUpdate_rockerLast, afterUpdate_pending, filter_kind_arrange,
    filter_rotate_updateEvents, filter_rocker_updateEvents, filter_button_updateEvents]
  refine ⟨fun h1 h2 hpos => ?rotate, fun hr hlast => ?rocker, fun hb ht => ?button⟩
  case rotate =>
    have hdelta : rpt.delta = rpt'.delta := by rw [Report.delta, h1, h2, Report.delta]
    rw [hdelta, hpos]
    exact ⟨rfl, rfl⟩
  case rocker =>
    rw [rocker_eq_ofNat, hr, ← rocker_eq_ofNat, hlast]
    exact ⟨rfl, rfl⟩
  case button => rw [buttons_eq_ofNat, hb, ← buttons_eq_ofNat, rpt.tapHold_eq, ht, rpt'.tapHold_eq]

/-! ## The order of the events (R142) -/

theorem filter_kind_updateEvents_length_le_one (last : BitVec 2) (newPos : Int) (rpt : Report)
    (k : EventKind) :
    ((updateEvents last newPos rpt).filter (fun e => decide (e.kind = k))).length ≤ 1 := by
  cases k with
  | rotate => rw [filter_rotate_updateEvents]; unfold rotateEvents; split <;> simp
  | rocker => rw [filter_rocker_updateEvents]; unfold rockerEvents; split <;> simp
  | button => rw [filter_button_updateEvents]; unfold buttonEvents; split <;> simp

/-- With at most one event of each kind, the kinds stand as the order names them. -/
theorem kinds_arrange_sublist (o : EventOrder) {evs : List Event}
    (h : ∀ k, (evs.filter (fun e => decide (e.kind = k))).length ≤ 1) :
    ((arrange o evs).map Event.kind).Sublist (orderKinds o) := by
  unfold arrange
  induction orderKinds o with
  | nil => simp
  | cons k ks ih =>
    have hk : (evs.filter (fun e => decide (e.kind = k))).map Event.kind =
        List.replicate (evs.filter (fun e => decide (e.kind = k))).length k :=
      List.eq_replicate_iff.2 ⟨by simp, List.forall_mem_map.2 fun e he => by
        simpa using (List.mem_filter.1 he).2⟩
    rw [List.flatMap_cons, List.map_append, hk]
    exact ((List.replicate_sublist_replicate k).2 (h k)).append ih

/-- The permutations of the three kinds are the six values of P_EVENT_ORDER. -/
theorem permutations_kinds :
    [EventKind.rotate, .rocker, .button].permutations' =
      [EventOrder.rotateRockerButton, .rockerRotateButton, .rockerButtonRotate, .rotateButtonRocker,
        .buttonRotateRocker, .buttonRockerRotate].map orderKinds := rfl

theorem orderKinds_injective : Function.Injective orderKinds := by
  intro o o'
  cases o <;> cases o' <;> decide

theorem orderKinds_perm (o : EventOrder) : (orderKinds o).Perm [.rotate, .rocker, .button] := by
  cases o <;> decide

/-- Settles O17: a response has at most one event of each kind, and the six orders are the permutations. -/
theorem eventsWaitInTheDrawnOrder : Obligations.EventsWaitInTheDrawnOrder := by
  refine ⟨fun s t rpt h => ⟨?_, orderKinds_perm _⟩, fun o o' h => orderKinds_injective h,
    fun kinds hk => ?_⟩
  · obtain rfl := exec_rspUpdate_next h
    exact kinds_arrange_sublist _ (filter_kind_updateEvents_length_le_one _ _ rpt)
  · rw [← List.mem_permutations', permutations_kinds, List.mem_map] at hk
    obtain ⟨o, -, ho⟩ := hk
    exact ⟨o, ho⟩

/-! ## POS stays within P_POS_BITS (R139) -/

theorem withinWidth_zero (posBits : Option Nat) : withinWidth posBits 0 := by
  intro n _
  have h : (0 : Int) < 2 ^ (n - 1) := by positivity
  omega

/-- The accumulator answers a POS that fits: the old one, or a sum it has checked. -/
theorem withinWidth_of_accumulate {posBits : Option Nat} {pos delta newPos : Int}
    (h : accumulate posBits pos delta = some newPos) (hp : withinWidth posBits pos) :
    withinWidth posBits newPos := by
  by_contra hn
  rw [eq_add_of_accumulate h] at hn
  simp [accumulate_eq_none hp hn] at h

@[simp] theorem raiseInLoop_posBits (f : LoopFailure) (s : State) :
    (raiseInLoop f s).posBits = s.posBits :=
  loopExit_posBits _ s

theorem LoopMove.posBits {s t : State} (hm : LoopMove s t) : t.posBits = s.posBits := by
  cases hm with
  | exit | writeFailed | readLength | readFailed | hookFailed => simp
  | _ => rfl

theorem LoopMove.withinWidth {s t : State} (hm : LoopMove s t) (h : withinWidth s.posBits s.drv.pos) :
    withinWidth s.posBits t.drv.pos := by
  obtain ⟨hpos, -⟩ | ⟨rpt, newPos, hacc, rfl⟩ := hm.device
  · rwa [hpos]
  · exact withinWidth_of_accumulate hacc h

theorem OpenMove.position {sink : Option SinkRef} {s t : State} (hm : OpenMove sink s t) :
    t.posBits = s.posBits ∧ (t.drv.pos = s.drv.pos ∨ t.drv.pos = 0) := by
  cases hm with
  | opened h ha hw => exact ⟨rfl, .inr rfl⟩
  | notFound | initFailed | hangs => exact ⟨rfl, .inl rfl⟩

/-- A call of the embedder leaves POS, or begins a driver whose POS is 0 (R35 (e), R240). -/
theorem CallMove.position {s t : State} (hm : CallMove s t) :
    t.posBits = s.posBits ∧ (t.drv.pos = s.drv.pos ∨ t.drv.pos = 0) := by
  cases hm with
  | openFresh sink t hp hs hm => exact hm.position
  | openAgain sink t hp hm =>
    obtain ⟨hbits, hpos⟩ := hm.position
    exact ⟨hbits, .inr (hpos.elim id id)⟩
  | returned | refused | closed | tornDown | sinkSet => exact ⟨rfl, .inl rfl⟩

theorem StepMove.withinWidth {s t : State} (hm : StepMove s t) (h : withinWidth s.posBits s.drv.pos) :
    t.posBits = s.posBits ∧ withinWidth s.posBits t.drv.pos := by
  cases hm with
  | idle => exact ⟨rfl, h⟩
  | loop t hm => exact ⟨hm.posBits, hm.withinWidth h⟩
  | failure hl => simpa using h
  | call t hb hm =>
    obtain ⟨hbits, hpos | hpos⟩ := hm.position
    · exact ⟨hbits, hpos ▸ h⟩
    · exact ⟨hbits, hpos ▸ withinWidth_zero _⟩

/-- Settles O48: the accumulator checks the width, and a driver begins at 0. -/
theorem stepKeepsPositionInWidth : Obligations.StepKeepsPositionInWidth := by
  intro s t hw h
  obtain ⟨hbits, hpos⟩ := (step_move h).withinWidth (s := s.tookTurn) hw
  exact ⟨hbits, hbits ▸ hpos⟩

end Sys2Proof.Machine
end

section
/-! SEQ.POLL phase by phase, and the loop exit (spec/42_lifecycle.md R173 to R177, R180;
spec/60_exceptions.md R202, R203): a rule for each phase and each answer of a call made there, and what
a failure raised there leaves. -/

namespace Sys2Proof

/-! ## A buffer of 8 bytes (R45, R175) -/

@[simp] theorem Report.ofBytes_bytes (rpt : Report) : Report.ofBytes rpt.bytes = some rpt := rfl

theorem Report.ofBytes_of_length_ne {bytes : List Byte} (h : bytes.length ≠ 8) :
    Report.ofBytes bytes = none := by
  unfold Report.ofBytes
  split
  · exact absurd rfl h
  · rfl

end Sys2Proof

namespace Sys2Proof.Machine

/-! ## The loop exit and a failure raised in the loop (R202, R203) -/

theorem loopExit_exitedWith (c : ExitCause) (s : State) : exitedWith c s (loopExit c s) := by
  rw [exitedWith, loopExit_drv, loopExit_trace]
  cases h : s.drv.handleOpen <;> simp

/-- A failure that is no transport error is classified by KEEP_RUNNING (R202). -/
theorem exitCauseOf_classify_unexpected {f : LoopFailure} (hf : ∀ d, f ≠ .transport d) (k : Bool) :
    exitCauseOf (classify f k) = if k then .unexpectedFailure else .stopRequested := by
  cases f with
  | transport d => exact absurd rfl (hf d)
  | length | sink | other => cases k <;> rfl

theorem raiseInLoop_transport_exitedWith (d : Transfer) (s : State) :
    exitedWith .ioFailure s (raiseInLoop (.transport d) s) :=
  loopExit_exitedWith .ioFailure s

theorem raiseInLoop_unexpected_exitedWith {f : LoopFailure} (hf : ∀ d, f ≠ .transport d) (s : State) :
    exitedWith (if s.drv.keepRunning then .unexpectedFailure else .stopRequested) s
      (raiseInLoop f s) := by
  rw [← exitCauseOf_classify_unexpected hf]
  exact loopExit_exitedWith _ s

@[simp] theorem raiseInLoop_inputs (f : LoopFailure) (s : State) :
    (raiseInLoop f s).inputs = s.inputs :=
  loopExit_inputs _ s

/-! ## SEQ.POLL in each phase (R173 to R177) -/

section
variable {s : State}

theorem exec_seqPoll_of_top (hr : s.runsIn .top) : exec .seqPoll s = .next (pollTop s) := by
  obtain ⟨hp, hs⟩ := hr
  simp [exec, execSeqPoll, hp, hs]

theorem exec_seqPoll_of_write (hr : s.runsIn .write) :
    exec .seqPoll s = .next (if s.drv.inFlight then returnWrite s else issueWrite s) := by
  obtain ⟨hp, hs⟩ := hr
  simp [exec, execSeqPoll, hp, hs]

theorem exec_seqPoll_of_read (hr : s.runsIn .read) :
    exec .seqPoll s = .next (if s.drv.inFlight then returnRead s else issueRead s) := by
  obtain ⟨hp, hs⟩ := hr
  simp [exec, execSeqPoll, hp, hs]

theorem exec_seqPoll_of_parsed (hr : s.runsIn .decode) (hx : s.drv.rx = none) :
    exec .seqPoll s = .next (deliverNext s) := by
  obtain ⟨hp, hs⟩ := hr
  simp [exec, execSeqPoll, pollDecode, hp, hs, hx]

theorem exec_seqPoll_of_sleep (hr : s.runsIn .sleep) : exec .seqPoll s = .next (setPhase .top s) := by
  obtain ⟨hp, hs⟩ := hr
  simp [exec, execSeqPoll, hp, hs]

theorem exec_seqExit_of_top (hr : s.runsIn .top) (hk : s.drv.keepRunning = false) :
    exec .seqExit s = .next (loopExit .stopRequested s) := by
  obtain ⟨hp, hs⟩ := hr
  exact whenDue_due _ (by simp [hp]) (by simp [State.due, State.loopMoves, hp, hs, hk])

end

/-! ## The answers of the calls the loop makes (R174 to R176) -/

section
variable {s : State}

theorem returnWrite_of_ok (ha : s.writeAnswer = .ok) : returnWrite s = setPhase .read s.tookWrite := by
  simp only [returnWrite, ha]

theorem returnWrite_of_ioFailure (ha : s.writeAnswer = .ioFailure) :
    returnWrite s = raiseInLoop (.transport .write) s.tookWrite := by
  simp only [returnWrite, ha, raiseInLoop_landed]

theorem returnRead_of_response {rpt : Report} (ha : s.readAnswer = .buffer rpt.bytes) :
    returnRead s =
      s.tookRead.setDrv { s.drv with phase := .decode, inFlight := false, rx := some rpt } := by
  simp only [returnRead, ha, Report.ofBytes_bytes]

theorem returnRead_of_length_ne {bytes : List Byte} (ha : s.readAnswer = .buffer bytes)
    (hl : bytes.length ≠ 8) : returnRead s = raiseInLoop .length s.tookRead := by
  simp only [returnRead, ha, Report.ofBytes_of_length_ne hl, raiseInLoop_landed]

theorem returnRead_of_failure (ha : s.readAnswer = .ioFailure ∨ s.readAnswer = .timeout) :
    returnRead s = raiseInLoop (.transport .read) s.tookRead := by
  obtain ha | ha := ha <;> simp only [returnRead, ha, raiseInLoop_landed]

theorem deliverNext_of_nil (hq : s.drv.pending = []) : deliverNext s = setPhase .sleep s := by
  simp only [deliverNext, hq]

variable {e : Event} {es : List Event} (hq : s.drv.pending = e :: es)
include hq

theorem deliverNext_of_default (hk : s.drv.sink = .default) : deliverNext s = receive e es s := by
  simp only [deliverNext, hq, deliver, hk]

theorem deliverNext_of_hook_ok {k : SinkRef} (hk : s.drv.sink = .ref k) (ha : s.hookAnswer = .ok) :
    deliverNext s = receive e es s.tookHook := by
  simp only [deliverNext, hq, deliver, hk, ha]

theorem deliverNext_of_hook_failure {k : SinkRef} (hk : s.drv.sink = .ref k)
    (ha : s.hookAnswer = .failure) : deliverNext s = raiseInLoop .sink s.tookHook := by
  simp only [deliverNext, hq, deliver, hk, ha]

end

/-! ## The statements -/

/-- Settles O34: the call, and the two answers of the write that return. -/
theorem writePhase : Obligations.WritePhase := by
  intro s hr
  rw [exec_seqPoll_of_write hr]
  refine ⟨fun hf => ?call, fun hf ha => ?ok, fun hf ha => ?failed⟩
  case call => rw [if_neg (by simp [hf]), issueWrite, getUpdateReport_eq]; rfl
  case ok => rw [if_pos hf, returnWrite_of_ok ha]; rfl
  case failed =>
    rw [if_pos hf, returnWrite_of_ioFailure ha]
    exact ⟨_, rfl, raiseInLoop_transport_exitedWith .write s.tookWrite, raiseInLoop_inputs _ _⟩

/-- Settles O35: the call, and the answers of the read that return. -/
theorem readPhase : Obligations.ReadPhase := by
  intro s hr
  rw [exec_seqPoll_of_read hr]
  refine ⟨fun hf => ?call, fun rpt hf ha => ?response, fun hf ha => ?failed,
    fun bytes hf ha hl => ?length⟩
  case call => rw [if_neg (by simp [hf])]; rfl
  case response => rw [if_pos hf, returnRead_of_response ha]; rfl
  case failed =>
    rw [if_pos hf, returnRead_of_failure ha]
    exact ⟨_, rfl, raiseInLoop_transport_exitedWith .read s.tookRead, raiseInLoop_inputs _ _⟩
  case length =>
    rw [if_pos hf, returnRead_of_length_ne ha hl]
    exact ⟨_, rfl, raiseInLoop_unexpected_exitedWith (by simp) s.tookRead, raiseInLoop_inputs _ _⟩

/-- Settles O36: by the events that wait, the sink of this moment and what its hook does. -/
theorem decodePhaseDelivers : Obligations.DecodePhaseDelivers := by
  intro s hr hx
  rw [exec_seqPoll_of_parsed hr hx]
  refine ⟨fun hq => ?sleep, fun e es hq hk => ?discarded, fun e es k hq hk ha => ?received,
    fun e es k hq hk ha => ?failed⟩
  case sleep => rw [deliverNext_of_nil hq]; rfl
  case discarded => rw [deliverNext_of_default hq hk, ← hk]; rfl
  case received => rw [deliverNext_of_hook_ok hq hk ha, ← hk]; rfl
  case failed =>
    rw [deliverNext_of_hook_failure hq hk ha]
    exact ⟨_, rfl, raiseInLoop_unexpected_exitedWith (by simp) s.tookHook, raiseInLoop_inputs _ _⟩

/-- Settles O38: SEQ.EXIT is due there, and it is the loop exit. -/
theorem exitStopsTheLoop : Obligations.ExitStopsTheLoop :=
  fun s hr hk => ⟨_, exec_seqExit_of_top hr hk, loopExit_exitedWith _ s, loopExit_inputs _ s⟩

/-- Settles O33: at TOP the loop reads KEEP_RUNNING, and without it takes the loop exit of SEQ.EXIT. -/
theorem topTestsKeepRunning : Obligations.TopTestsKeepRunning := by
  intro s hr
  rw [exec_seqPoll_of_top hr, pollTop]
  refine ⟨fun hk => ?run, fun hk => ?stop⟩
  case run => rw [if_pos hk]; rfl
  case stop =>
    rw [if_neg (by simp [hk]), exec_seqExit_of_top hr hk]
    exact ⟨rfl, _, rfl, loopExit_exitedWith _ s, loopExit_inputs _ s⟩

/-- Settles O37: SLEEP ends in `setPhase`, whatever KEEP_RUNNING is. -/
theorem sleepPhaseReturnsToTop : Obligations.SleepPhaseReturnsToTop :=
  fun _ => exec_seqPoll_of_sleep

end Sys2Proof.Machine
end

section
/-! CTRL.OPEN and how it fails, CTRL.CLOSE and CTRL.SET_SINK (spec/42_lifecycle.md R170 to R172, R178,
R179), and what these calls may still do to a driver whose loop has stopped. -/

namespace Sys2Proof.Machine

/-! ## CTRL.OPEN that brings no driver into being (R171, R172, R251) -/

theorem openDevice_of_deviceNotFound {s : State} (sink : Option SinkRef)
    (ha : s.openAnswer = .deviceNotFound) :
    openDevice sink s =
      (s.tookOpen.emit (.xportOpen Config.vendorId Config.productId .deviceNotFound)).setRet
        (.error .deviceNotFound) := by
  simp only [openDevice, ha]

theorem configureDevice_of_ioFailure {s : State} (sink : Option SinkRef)
    (hw : s.writeAnswer = .ioFailure) :
    configureDevice sink s =
      (s.tookWrite.emit (.memWrite s.drv.handle initConfigure)).closeHandle.setRet
        (.error .deviceInitFailure) := by
  simp only [configureDevice, hw]

theorem configureDevice_of_never {s : State} (sink : Option SinkRef) (hw : s.writeAnswer = .never) :
    configureDevice sink s =
      (s.tookWrite.emit (.memWrite s.drv.handle initConfigure)).setDrv
        { s.drv with inFlight := true, stuck := true } := by
  simp only [configureDevice, hw]

/-- Settles O25: the open is answered, and nothing else happens. -/
theorem openWithoutDeviceFails : Obligations.OpenWithoutDeviceFails := by
  intro s sink hp hs ha
  rw [exec_ctrlOpen_of_fresh sink hp hs, openDevice_of_deviceNotFound sink ha]
  rfl

/-- Settles O26: the open, the configure write that fails, and the close of the handle acquired. -/
theorem openInitFailureClosesHandle : Obligations.OpenInitFailureClosesHandle := by
  intro s sink h hp hs ha hw
  have hw' : (acquireHandle h s).writeAnswer = .ioFailure := hw
  rw [exec_ctrlOpen_of_fresh sink hp hs, openDevice_of_found sink ha,
    configureDevice_of_ioFailure sink hw', initConfigure_eq, List.append_cons, List.append_cons]
  rfl

/-! ## CTRL.OPEN that never answers (R170, R251) -/

/-- While CTRL.OPEN blocks, no agent has anything to do: a step takes the turn and nothing else. -/
theorem step_of_openBlocked {s : State} (hb : s.openBlocked = true) : step s = .next s.tookTurn := by
  have hs : s.drv.stuck = true := by simp_all [State.openBlocked]
  have hm : s.loopMoves = false := by simp [State.loopMoves, hs]
  have hd : s.due = none := by simp [State.due, hm]
  obtain ⟨hloop, hfailure, hcall⟩ := stepIdlesWithoutWork s
  cases ht : s.nextTurn with
  | call => exact hcall ht hb
  | loop => exact hloop ht hd
  | failure => exact hfailure ht hm

/-- A blocked CTRL.OPEN stays blocked: a run of any length takes turns and nothing else (R170). -/
theorem run_of_openBlocked {s : State} (hb : s.openBlocked = true) (n : Nat) :
    ∃ u, Host.Core.run Sys2Proof.core n s = .next u ∧
      u.drv = s.drv ∧ u.ret = s.ret ∧ u.trace = s.trace := by
  induction n generalizing s with
  | zero => exact ⟨s, run_zero s, rfl, rfl, rfl⟩
  | succ n ih =>
    obtain ⟨u, hu, hkept⟩ := ih (s := s.tookTurn) hb
    exact ⟨u, (run_succ_next (step_of_openBlocked hb) n).trans hu, hkept⟩

/-- Settles O27: the open blocks in its configure write, and no step changes what it has done. -/
theorem openMayBlockForEver : Obligations.OpenMayBlockForEver := by
  intro s sink h hp hs ha hw
  have hw' : (acquireHandle h s).writeAnswer = .never := hw
  have hblocked : (openDevice sink s).openBlocked = true := by
    rw [openDevice_of_found sink ha, configureDevice_of_never sink hw']
    simp [State.openBlocked, acquireHandle, hp]
  refine ⟨_, exec_ctrlOpen_of_fresh sink hp hs, fun n => ?_⟩
  obtain ⟨u, hu, hdrv, hret, htrace⟩ := run_of_openBlocked hblocked n
  rw [openDevice_of_found sink ha, configureDevice_of_never sink hw', initConfigure_eq]
    at hdrv hret htrace
  refine ⟨u, hu, ?phase, ?handle, hret, ?trace⟩
  case phase => rw [hdrv]; exact hp
  case handle => rw [hdrv]; rfl
  case trace => rw [htrace, List.append_cons]; rfl

/-- Settles O29: neither slot is one on which CTRL.OPEN has its precondition. -/
theorem secondOpenRefused : Obligations.SecondOpenRefused := by
  intro s sink
  refine ⟨fun hn hs => ?running, fun hp hs => ?blocked⟩
  case running => simp [exec, execCtrlOpen, hn, hs]
  case blocked => simp [exec, execCtrlOpen, hp, hs]

/-! ## CTRL.CLOSE and CTRL.SET_SINK (R178, R179) -/

/-- Settles O30: by the guard of the teardown, which asks of a stopped driver what no sound one has. -/
theorem closeClearsKeepRunning : Obligations.CloseClearsKeepRunning := by
  intro s hn
  refine ⟨fun hc => ?flag, fun hp ho hf => ?teardown, fun hs ⟨ho, hp⟩ => ?sound⟩
  case flag =>
    have hg : ¬ (s.drv.handleOpen = true ∧ s.drv.phase = .stopped) :=
      fun ⟨ho, hp⟩ => by simp [hc hp] at ho
    exact (if_neg hn).trans (if_neg hg)
  case teardown => exact (if_neg hn).trans ((if_pos ⟨ho, hp⟩).trans (if_neg (by simp [hf])))
  case sound => simp [(hs.1.closed_of_stopped hp).2] at ho

/-- Settles O31: CTRL.SET_SINK asks for a driver, and writes SINK. -/
theorem setSinkBindsTheSink : Obligations.SetSinkBindsTheSink :=
  fun _ _ hn => if_neg hn

/-! ## A stopped driver (R178, R179, R203, R208) -/

/-- A call within a driver whose handle is closed makes no port call and writes KEEP_RUNNING and SINK
alone. -/
theorem CallMove.frame_of_closed {s t : State} (hm : CallMove s t) (hi : sameInstance s t)
    (hc : s.drv.handleOpen = false) :
    t.trace = s.trace ∧
      t.drv = { s.drv with keepRunning := t.drv.keepRunning, sink := t.drv.sink } := by
  obtain ⟨hn, hr⟩ := hi
  cases hm with
  | returned | refused | closed | sinkSet => exact ⟨rfl, rfl⟩
  | openFresh sink t hp hs hm => exact absurd hp hn
  | openAgain sink t hp hm => simp [hm.retired] at hr
  | tornDown hp ho => simp [hc] at ho

/-- A stopped driver has no move but the embedder's. -/
theorem StepMove.frame_of_stopped {s t : State} (hm : StepMove s t) (hi : sameInstance s t)
    (hs : s.drv.Sound) (hp : s.drv.phase = .stopped) :
    t.trace = s.trace ∧
      t.drv = { s.drv with keepRunning := t.drv.keepRunning, sink := t.drv.sink } := by
  cases hm with
  | idle => exact ⟨rfl, rfl⟩
  | loop t hm => exact absurd hp hm.phase_runs.2
  | failure hl => exact absurd hp ((loopMoves_iff s).1 hl).2.2
  | call t hb hm => exact hm.frame_of_closed hi (hs.closed_of_stopped hp).2

/-- Settles O54: the embedder's calls find the handle closed. -/
theorem stoppedInstanceIsFinal : Obligations.StoppedInstanceIsFinal :=
  fun s _ hs hp h hi => (step_move h).frame_of_stopped (s := s.tookTurn) hi hs.1 hp

end Sys2Proof.Machine
end

section
/-! Failures and the loop exit, and what no step undoes (spec/60_exceptions.md R202, R203, R206, R208,
R210, R221, R226): the refusal mark, the drivers put aside, and every way in which a loop ends. -/

namespace Sys2Proof.Machine

/-! ## The sequencer's turn -/

/-- On the sequencer's turn the machine idles or makes a move of the sequencer. -/
theorem loopStep_move {s t : State} (h : loopStep s = .next t) : t = s ∨ LoopMove s t := by
  unfold loopStep at h
  split at h
  · exact .inr (due_exec_move ‹_› h)
  · cases h; exact .inl rfl

/-! ## The refusal mark (R206) -/

@[simp] theorem raiseInLoop_refusalMark (f : LoopFailure) (s : State) :
    (raiseInLoop f s).refusalMark = s.refusalMark :=
  loopExit_refusalMark _ s

theorem LoopMove.refusalMark {s t : State} (hm : LoopMove s t) : t.refusalMark = s.refusalMark := by
  cases hm with
  | exit | writeFailed | readLength | readFailed | hookFailed => simp
  | _ => rfl

theorem OpenMove.refusalMark {sink : Option SinkRef} {s t : State} (hm : OpenMove sink s t) :
    t.refusalMark = s.refusalMark := by
  cases hm <;> rfl

/-- A call of the embedder leaves the mark, or is refused and sets it. -/
theorem CallMove.refusalMark {s t : State} (hm : CallMove s t) :
    t.refusalMark = s.refusalMark ∨ t.refusalMark = true := by
  cases hm with
  | refused why => exact .inr rfl
  | openFresh sink t hp hs hm => exact .inl hm.refusalMark
  | openAgain sink t hp hm => exact .inl hm.refusalMark
  | returned | closed | tornDown | sinkSet => exact .inl rfl

theorem StepMove.refusalMark {s t : State} (hm : StepMove s t) (h : s.refusalMark = true) :
    t.refusalMark = true := by
  cases hm with
  | idle => exact h
  | loop t hm => exact hm.refusalMark.trans h
  | failure hl => simpa using h
  | call t hb hm => exact hm.refusalMark.elim (·.trans h) id

/-- Settles O12: a command hands back its frame or the refusal, and no move clears the mark. -/
theorem refusalMarkStays : Obligations.RefusalMarkStays := by
  refine ⟨fun i s hi => ?command, fun s t h hk => ?step, fun s t h => ?sequencer⟩
  case command =>
    obtain ⟨r, hexec⟩ := exec_command hi
    cases r with
    | ok rpt => exact .inl ⟨rpt, hexec s⟩
    | error why => exact .inr ⟨why, hexec s⟩
  case step => exact (step_move h).refusalMark (s := s.tookTurn) hk
  case sequencer =>
    obtain rfl | hm := loopStep_move h
    · rfl
    · exact hm.refusalMark

/-! ## The drivers put aside (R208, R241) -/

theorem exec_ctrlOpen_of_stopped {s : State} (sink : Option SinkRef) (hp : s.drv.phase = .stopped) :
    exec (.ctrlOpen sink) s = .next (openDevice sink (s.setAside Driver.absent)) := by
  simp [exec, execCtrlOpen, hp]

/-- Settles O28: the slot left by `setAside` is a fresh one, and the open keeps those put aside. -/
theorem openAfterStopIsANewInstance : Obligations.OpenAfterStopIsANewInstance := by
  intro s sink hp
  have hopen := exec_ctrlOpen_of_stopped sink hp
  have hfresh := exec_ctrlOpen_of_fresh (s := s.setAside Driver.absent) sink rfl rfl
  exact ⟨hopen.trans hfresh.symm, _, hopen, (openDevice_move sink _).retired⟩

theorem CallMove.retired {s t : State} (hm : CallMove s t) :
    t.retired = s.retired ∨ (s.drv.phase = .stopped ∧ t.retired = s.drv :: s.retired) := by
  cases hm with
  | openFresh sink t hp hs hm => exact .inl hm.retired
  | openAgain sink t hp hm => exact .inr ⟨hp, hm.retired⟩
  | returned | refused | closed | tornDown | sinkSet => exact .inl rfl

theorem StepMove.retired {s t : State} (hm : StepMove s t) :
    t.retired = s.retired ∨ (s.drv.phase = .stopped ∧ t.retired = s.drv :: s.retired) := by
  cases hm with
  | idle => exact .inl rfl
  | loop t hm => exact .inl hm.retired
  | failure hl => exact .inl (by simp)
  | call t hb hm => exact hm.retired

/-- Settles O55: CTRL.OPEN on a stopped driver is the one move that adds to those put aside. -/
theorem retiredInstancesNeverChange : Obligations.RetiredInstancesNeverChange :=
  fun s _ h => (step_move h).retired (s := s.tookTurn)

/-! ## How a loop ends (R202, R203, R221) -/

theorem due_eq_none_of_stopped {s : State} (hp : s.drv.phase = .stopped) : s.due = none := by
  simp [State.due, State.loopMoves, hp]

/-- Every failure raised in the loop ends it by the loop exit (R202). -/
theorem raiseInLoop_exitedWith (f : LoopFailure) (s : State) :
    exitedWith (exitCauseOf (classify f s.drv.keepRunning)) s (raiseInLoop f s) :=
  loopExit_exitedWith _ s

/-- Where a move of the sequencer ends the loop: at TOP, by a transfer that returned in WRITE or READ,
or by a hook in DECODE; each is a loop exit. -/
theorem LoopMove.ending {s t : State} (hm : LoopMove s t) (ht : t.drv.phase = .stopped) :
    (∃ cause, exitedWith cause s t) ∧
      (s.drv.phase = .top ∨ s.drv.phase = .decode ∨
        (s.drv.phase = .write ∧ s.writeAnswer = .ioFailure) ∨
        (s.drv.phase = .read ∧ s.readAnswer ≠ .never)) := by
  have hrun : s.drv.phase ≠ .stopped := hm.phase_runs.2
  cases hm with
  | exit hs hp hk => exact ⟨⟨_, loopExit_exitedWith _ s⟩, .inl hp⟩
  | hookFailed e es k hs hp hr hq hk ha =>
    exact ⟨⟨_, raiseInLoop_exitedWith _ s.tookHook⟩, .inr (.inl hp)⟩
  | writeFailed hs hp hf ha =>
    rw [raiseInLoop_landed]
    exact ⟨⟨_, raiseInLoop_exitedWith _ s.tookWrite⟩, .inr (.inr (.inl ⟨hp, ha⟩))⟩
  | readLength bytes hs hp hf ha hb =>
    rw [raiseInLoop_landed]
    exact ⟨⟨_, raiseInLoop_exitedWith _ s.tookRead⟩, .inr (.inr (.inr ⟨hp, by simp [ha]⟩))⟩
  | readFailed hs hp hf ha =>
    rw [raiseInLoop_landed]
    refine ⟨⟨_, raiseInLoop_exitedWith _ s.tookRead⟩, .inr (.inr (.inr ⟨hp, ?_⟩))⟩
    obtain ha | ha := ha <;> simp [ha]
  | toWrite | writeOk | readOk | toSleep | wake => cases ht
  | _ => exact absurd ht hrun

/-- CTRL.OPEN leaves the slot as it stood, or a driver at TOP. -/
theorem OpenMove.stopped_before {sink : Option SinkRef} {s t : State} (hm : OpenMove sink s t)
    (ht : t.drv.phase = .stopped) : s.drv.phase = .stopped := by
  cases hm with
  | opened => cases ht
  | notFound | initFailed | hangs => exact ht

/-- No call of the embedder ends a loop (R178, R221). -/
theorem CallMove.stopped_before {s t : State} (hm : CallMove s t) (ht : t.drv.phase = .stopped) :
    s.drv.phase = .stopped := by
  cases hm with
  | openFresh sink t hp hs hm => exact hm.stopped_before ht
  | openAgain sink t hp hm => exact hp
  | returned | refused | closed | tornDown | sinkSet => exact ht

theorem StepMove.exitedWith_of_stopped {s t : State} (hm : StepMove s t)
    (hs : s.drv.phase ≠ .stopped) (ht : t.drv.phase = .stopped) : ∃ cause, exitedWith cause s t := by
  cases hm with
  | idle => exact absurd ht hs
  | loop t hm => exact (hm.ending ht).1
  | failure hl =>
    rw [raiseInLoop_landed]
    exact ⟨_, raiseInLoop_exitedWith .other s⟩
  | call t hb hm => exact absurd (hm.stopped_before ht) hs

/-- Settles O39: by the equations of `loopExit`, and the ways in which a step ends a loop. -/
theorem loopExitEffect : Obligations.LoopExitEffect := by
  refine ⟨fun c s => ?effect, fun s t h hs ht => ?ends⟩
  case effect =>
    exact ⟨loopExit_exitedWith c s, due_eq_none_of_stopped (loopExit_phase c s), loopExit_inputs c s⟩
  case ends => exact (step_move h).exitedWith_of_stopped (s := s.tookTurn) hs ht

/-! ## Failures in the loop (R202, R210, R226) -/

/-- A failure drawn at a loop that moves is raised in it (R226). -/
theorem step_of_failure_of_loopMoves {s : State} (h : s.nextTurn = .failure)
    (hm : s.loopMoves = true) : step s = .next (raiseInLoop .other s.tookTurn) := by
  rw [step_of_failure h, failLoop, if_pos ((s.tookTurn_loopMoves).trans hm), raiseInLoop_landed]

/-- From a sound state with a transfer in flight, the sequencer ends the loop by the return of that
transfer alone: at TOP and in DECODE none is in flight (R49, R221). -/
theorem loopStep_ending_of_inFlight {s t : State} (h : loopStep s = .next t) (hd : s.drv.Sound)
    (hf : s.drv.inFlight = true) (hs : s.drv.phase ≠ .stopped) (ht : t.drv.phase = .stopped) :
    (s.drv.phase = .write ∧ s.writeAnswer = .ioFailure) ∨
      (s.drv.phase = .read ∧ s.readAnswer ≠ .never) := by
  obtain ⟨-, hflight, -⟩ := hd
  obtain rfl | hm := loopStep_move h
  · exact absurd ht hs
  · have hphase := hflight hf
    obtain ⟨-, hp | hp | hend⟩ := hm.ending ht
    · simp [hp] at hphase
    · simp [hp] at hphase
    · exact hend

theorem callStep_stopped_before {s t : State} (h : callStep s = .next t) (ht : t.drv.phase = .stopped) :
    s.drv.phase = .stopped := by
  obtain rfl | hm := callStep_move h
  · exact ht
  · exact hm.stopped_before ht

/-- Settles O40: the classification by its cause, the drawn failure as a step, and the end of a loop in
mid-transfer by whose turn it is. -/
theorem failureClassification : Obligations.FailureClassification := by
  refine ⟨fun s d => raiseInLoop_transport_exitedWith d s, fun s f hf => ?unexpected,
    fun s f => raiseInLoop_inputs f s, fun s hn hst hp hs => ?drawn,
    fun s t hsound h hf hs ht => ?ending⟩
  case unexpected =>
    have hexit := raiseInLoop_unexpected_exitedWith hf s
    refine ⟨fun hk => ?_, fun hk => ?_⟩
    · rwa [if_neg (by simp [hk])] at hexit
    · rwa [if_pos hk] at hexit
  case drawn =>
    exact ⟨_, step_of_failure_of_loopMoves hn ((loopMoves_iff s).2 ⟨hst, hp, hs⟩),
      raiseInLoop_unexpected_exitedWith (by simp) s.tookTurn, raiseInLoop_inputs _ _⟩
  case ending =>
    cases hn : s.nextTurn with
    | call =>
      rw [step_of_call hn] at h
      exact absurd (callStep_stopped_before h ht) hs
    | loop =>
      rw [step_of_loop hn] at h
      exact .inr ⟨rfl, loopStep_ending_of_inFlight h hsound.1 hf hs ht⟩
    | failure => exact .inl rfl

end Sys2Proof.Machine
end

section
/-! The state after reset (spec/70_reset_and_hazards.md R240, R244), and the calls that never return
(R251, R254): what each leaves, and that no step moves a loop that one of them blocks. -/

namespace Sys2Proof.Machine

/-! ## Calls that never return (R251, R254) -/

theorem returnWrite_of_never {s : State} (ha : s.writeAnswer = .never) :
    returnWrite s = blockForever s.tookWrite := by
  simp only [returnWrite, ha]

theorem returnRead_of_never {s : State} (ha : s.readAnswer = .never) :
    returnRead s = blockForever s.tookRead := by
  simp only [returnRead, ha]

theorem deliverNext_of_hook_never {s : State} {e : Event} {es : List Event} {k : SinkRef}
    (hq : s.drv.pending = e :: es) (hk : s.drv.sink = .ref k) (ha : s.hookAnswer = .never) :
    deliverNext s = blockForever s.tookHook := by
  simp only [deliverNext, hq, deliver, hk, ha]

/-! ## A blocked loop (R251, R252) -/

/-- No operation of the sequencer has an effect on a blocked loop. -/
theorem LoopMove.eq_of_stuck {s t : State} (hm : LoopMove s t) (hst : s.drv.stuck = true) : t = s := by
  cases hm with
  | blocked => rfl
  | _ => exact absurd hst (Bool.eq_false_iff.1 ‹s.drv.stuck = false›)

/-- While the loop runs, blocked or not, the embedder's calls make no port call and leave it where it
stands (R178, R179, R223). -/
theorem CallMove.frame_of_running {s t : State} (hm : CallMove s t) (hn : s.drv.phase ≠ .none)
    (hs : s.drv.phase ≠ .stopped) :
    t.drv.phase = s.drv.phase ∧ t.drv.stuck = s.drv.stuck ∧ t.trace = s.trace := by
  cases hm with
  | returned | refused | closed | sinkSet => exact ⟨rfl, rfl, rfl⟩
  | openFresh sink t hp => exact absurd hp hn
  | openAgain sink t hp | tornDown hp => exact absurd hp hs

/-- A blocked loop takes no step, and a failure is not raised in it: only the embedder moves. -/
theorem StepMove.frame_of_stuck {s t : State} (hm : StepMove s t) (hst : s.drv.stuck = true)
    (hn : s.drv.phase ≠ .none) (hs : s.drv.phase ≠ .stopped) :
    t.drv.phase = s.drv.phase ∧ t.drv.stuck = s.drv.stuck ∧ t.trace = s.trace := by
  cases hm with
  | idle => exact ⟨rfl, rfl, rfl⟩
  | loop t hm => rw [hm.eq_of_stuck hst]; exact ⟨rfl, rfl, rfl⟩
  | failure hl => exact absurd hst (Bool.eq_false_iff.1 ((loopMoves_iff s).1 hl).1)
  | call t hb hm => exact hm.frame_of_running hn hs

/-- The loop is blocked in PHASE p, with the port calls made so far (R251). -/
def State.hungIn (p : Phase) (calls : List PortCall) (s : State) : Prop :=
  s.drv.phase = p ∧ s.drv.stuck = true ∧ s.trace = calls

theorem step_hungIn {p : Phase} {calls : List PortCall} (hn : p ≠ .none) (hs : p ≠ .stopped)
    (s t : State) (h : s.hungIn p calls) (hstep : step s = .next t) : t.hungIn p calls := by
  obtain ⟨rfl, hst, rfl⟩ := h
  obtain ⟨hphase, hstuck, htrace⟩ := (step_move hstep).frame_of_stuck (s := s.tookTurn) hst hn hs
  exact ⟨hphase, hstuck.trans hst, htrace⟩

/-- Settles O57: each of the three calls ends in `blockForever`, and every step keeps a loop hung. -/
theorem stuckLoopHangsForEver : Obligations.StuckLoopHangsForEver := by
  refine ⟨fun s hst => ⟨fun hp hf ha => ?write, fun hp hf ha => ?read, fun k hp hx hq hk ha => ?hook⟩,
    fun s n t hst hn hs hrun => ?hung⟩
  case write => rw [exec_seqPoll_of_write ⟨hp, hst⟩, if_pos hf, returnWrite_of_never ha]; rfl
  case read => rw [exec_seqPoll_of_read ⟨hp, hst⟩, if_pos hf, returnRead_of_never ha]; rfl
  case hook =>
    obtain ⟨e, es, hq⟩ := List.exists_cons_of_ne_nil hq
    rw [exec_seqPoll_of_parsed ⟨hp, hst⟩ hx, deliverNext_of_hook_never hq hk ha]; rfl
  case hung => exact run_keeps (step_hungIn hn hs) n s t ⟨rfl, hst, rfl⟩ hrun

/-! ## The state after reset (R240) -/

/-- Reset is what CTRL.OPEN leaves, given no sink and handle 0 (R240; log 1). -/
theorem State.reset_drv : State.reset.drv = Driver.opened 0 .default := rfl

/-- Settles O44: the eleven elements, read from the state. -/
theorem resetValues : Obligations.ResetValues :=
  ⟨rfl, rfl, rfl, rfl, rfl, rfl, rfl, rfl, rfl, rfl, rfl⟩

theorem Driver.opened_sound (h : Handle) (k : Sink) : (Driver.opened h k).Sound :=
  Driver.InService.sound_idle ⟨rfl, rfl, rfl, rfl, rfl, rfl⟩ (by simp) (by simp) rfl rfl rfl rfl

/-- The record of a successful CTRL.OPEN: a handle, and the configure command on it (R170, R244). -/
theorem portRun_opened (h : Handle) :
    portRun [.xportOpen Config.vendorId Config.productId (.found h), .memWrite h initConfigure] =
      some (.configured h) :=
  portRun_snoc (portRun_snoc (calls := []) rfl (portNext_found h)) (portNext_configure h)

theorem State.reset_ordered : State.reset.Ordered :=
  ⟨.configured 0, by simp [State.reset_drv, Driver.portStates], portRun_opened 0⟩

/-- Settles O45: a driver just opened is sound, and its POS is 0. -/
theorem resetIsSound : Obligations.ResetIsSound :=
  ⟨⟨State.reset_drv ▸ Driver.opened_sound 0 .default, by simp [State.reset]⟩, State.reset_ordered,
    withinWidth_zero⟩

end Sys2Proof.Machine
end
